-- ==== Sys2Proof/Word.lean ====
section
/-! DEFINITION. The word types of the Esharn 620: the data byte of a CAN frame (00_scope, "Byte order")
and the lamp pattern of 16 ON or OFF steps (R126, R179). Every other quantity of the manual is a number
with a range, and is a natural number or an integer in the model. -/

namespace Sys2Proof

/-- A data byte of a CAN frame. Bit 0 is the least significant (00_scope, "Byte order"). -/
abbrev Byte := BitVec 8

/-- A lamp pattern: step `s` is bit `s`, and 1 is ON (R126, R179). -/
abbrev Pattern := BitVec 16

end Sys2Proof
end

