-- ==== Sys2Proof/Syntax.lean ====
section
/-! DEFINITION. The vocabulary that commands are made of (CAN frames, ports, request parameters) and the
commands themselves: one constructor of `Instr` for each row of spec/opcode_table.json. -/

namespace Sys2Proof

/-- The two CAN ports (01_frame_path, "The two ports"). -/
inductive Port where
  | control | vehicle
  deriving DecidableEq, Repr, Inhabited

/-- The identifier format of a frame (R3). -/
inductive IdFormat where
  | standard | extended
  deriving DecidableEq, Repr, Inhabited

/-- The kind of a frame (R3). -/
inductive FrameKind where
  | data | remote
  deriving DecidableEq, Repr, Inhabited

/-- A CAN frame (R3). `len` is the length code on the bus; a code above 8 is received as length 8. `data`
holds the data bytes in the order they were sent. -/
structure CanFrame where
  format : IdFormat
  ident : Nat
  kind : FrameKind
  len : Nat
  data : List Byte
  deriving DecidableEq, Repr, Inhabited

/-- The commands: the operations and events of spec/opcode_table.json, in the table's order. The operands
are what the outside gives with the event: the port, the received frame, the entry whose timer expires, the
sampled voltage in steps of 0.1 V, the new level of the KEY line (`true` is on), the parameter bytes of a
service request. -/
inductive Instr where
  /-- FRAME_RECEIVED (R9). -/
  | frameReceived (port : Port) (frame : CanFrame)
  /-- RECEIVE_ERROR (R3). -/
  | receiveError (port : Port)
  /-- LOST_ARBITRATION (R4). -/
  | lostArbitration (port : Port)
  /-- TRANSMIT_SUCCESS (R4). -/
  | transmitSuccess (port : Port)
  /-- TRANSMIT_ERROR (R4). -/
  | transmitError (port : Port)
  /-- RECOVERY_SEQUENCE (R5). -/
  | recoverySequence (port : Port)
  /-- WAITING_FRAME_REOFFER (R8). -/
  | waitingFrameReoffer
  /-- RESPONSE_PART_OFFER (R150). -/
  | responsePartOffer
  /-- FRAME_TIMER_EXPIRY (R31). -/
  | frameTimerExpiry (entry : Nat)
  /-- WRITE_BEGIN (R108). -/
  | writeBegin
  /-- CONFIRM_WRITE_COMPLETE (R109). -/
  | confirmWriteComplete
  /-- HEAL_WRITE_COMPLETE (R112). -/
  | healWriteComplete
  /-- AGE_WRITE_COMPLETE (R113). -/
  | ageWriteComplete
  /-- SUPPLY_SAMPLE (R163): the voltage at BATT in steps of 0.1 V. -/
  | supplySample (decivolts : Nat)
  /-- SUPPLY_EVALUATION (R164). -/
  | supplyEvaluation
  /-- POWER_ON (R165). -/
  | powerOn
  /-- STARTUP (R167). -/
  | startup
  /-- KEY_LEVEL_CHANGE (R169): the KEY line's new level, `true` for on. -/
  | keyLevelChange (on : Bool)
  /-- KEY_ON_SETTLED (R169). -/
  | keyOnSettled
  /-- KEY_OFF_SETTLED (R169). -/
  | keyOffSettled
  /-- AFTER_RUN_END (R174). -/
  | afterRunEnd
  /-- AFTER_RUN_LIMIT (R121). -/
  | afterRunLimit
  /-- LAMP_STEP (R127). -/
  | lampStep
  /-- CYCLE_BOUNDARY (R128). -/
  | cycleBoundary
  /-- WINDOW_BEGIN (R140). -/
  | windowBegin
  /-- PACER_SLOT (R141). -/
  | pacerSlot
  /-- STATUS_EXPIRY (R144). -/
  | statusExpiry
  /-- CRYSTAL_STOP (R176). -/
  | crystalStop
  /-- STORE_WRITE_COMPLETE (R158). -/
  | storeWriteComplete
  /-- READ_STATUS (R152). -/
  | readStatus (page : Byte)
  /-- READ_RECORD (R153). -/
  | readRecord (slot : Byte)
  /-- READ_FRAME_STATE (R154). -/
  | readFrameState (index : Byte)
  /-- READ_SIGNAL (R154). -/
  | readSignal (index : Byte)
  /-- READ_WATCH (R154). -/
  | readWatch (index : Byte)
  /-- READ_FAULT_STATE (R154). -/
  | readFaultState (index : Byte)
  /-- READ_TABLE (R156): table code, index, field number. -/
  | readTable (table index field : Byte)
  /-- WRITE_TABLE (R156): table code, index, field number, value (signed 32-bit). -/
  | writeTable (table index field : Byte) (value : BitVec 32)
  /-- REVERT (R156). -/
  | revert
  /-- CLEAR (R157): scope code, and the fault code that scope CODE names. -/
  | clear (scope : Byte) (code : BitVec 16)
  /-- COMMIT (R160). -/
  | commit
  /-- RESTART (R162). -/
  | restart
  /-- BAD_REQUEST (R148): the request code the answer carries, 0 for a frame of length 0. -/
  | badRequest (code : Byte)
  /-- SERVICE_RESTART (R162). -/
  | serviceRestart
  /-- SUPPLY_COLLAPSE_BELOW_3V (R166). -/
  | supplyCollapse
  deriving DecidableEq, Repr

end Sys2Proof
end

