-- ==== Sys2Proof/Machine/Types.lean ====
section
/-! DEFINITION. The named values, table rows and runtime records of the module, as plain data. Each type
cites the rule that lists its values or fields. -/

namespace Sys2Proof.Machine

/-! ## Named values (R181) -/

/-- Port states (R1). -/
inductive PortState where
  | off | errorActive | errorPassive | busOff
  deriving DecidableEq, Repr, Inhabited

/-- Power states (00_scope, "Power state"). -/
inductive PowerState where
  | starting | running | afterRun | standby
  deriving DecidableEq, Repr, Inhabited

/-- How far STARTING has come (R165, R167). `held`: the reset stands and start-up has not run. `keyOn`:
STARTING was entered by key-on in STANDBY and start-up has not run. `waitKey`: start-up waits at step 5 for
the KEY line to settle. Outside STARTING the value is `done`. -/
inductive StartStage where
  | held | keyOn | waitKey | done
  deriving DecidableEq, Repr, Inhabited

/-- Reset kinds (R165). -/
inductive ResetKind where
  | powerOn | supplyDip | serviceRestart
  deriving DecidableEq, Repr, Inhabited

/-- Supply bands (R163). CUT is not held as a band. -/
inductive Band where
  | low | normal | over
  deriving DecidableEq, Repr, Inhabited

/-- Timebase sources (R176). -/
inductive TimebaseSource where
  | crystal | internal
  deriving DecidableEq, Repr, Inhabited

/-- Routes of a Frame Table entry (R12). -/
inductive Route where
  | forward | forwardIntact | drop
  deriving DecidableEq, Repr, Inhabited

/-- Default routes (R13). -/
inductive DefaultRoute where
  | forward | drop
  deriving DecidableEq, Repr, Inhabited

/-- The half of a byte that holds a rolling counter (R25). -/
inductive Nibble where
  | low | high
  deriving DecidableEq, Repr, Inhabited

/-- Timing of a Frame Table entry (R27). -/
inductive FrameTiming where
  | event | periodic
  deriving DecidableEq, Repr, Inhabited

/-- Arrival states and timing classifications (R20). -/
inductive ArrivalState where
  | neverSeen | onTime | early | late | missing
  deriving DecidableEq, Repr, Inhabited

/-- The defects of an arrival (R26). -/
inductive Defect where
  | length | checksum | repeated | skip
  deriving DecidableEq, Repr, Inhabited

/-- The verdict on an arrival (R26). -/
inductive Verdict where
  | fresh | damaged | repeated
  deriving DecidableEq, Repr, Inhabited

/-- Extractions of a Signal Table entry (R43). -/
inductive Extraction where
  | bits | byte | wordBE | wordLE
  deriving DecidableEq, Repr, Inhabited

/-- Signal statuses (R48). -/
inductive SignalStatus where
  | neverSeen | valid | unavailable | stale
  deriving DecidableEq, Repr, Inhabited

/-- Watch kinds (R58). -/
inductive WatchKind where
  | level | pair | timing | integrity | code | port | supply
  deriving DecidableEq, Repr, Inhabited

/-- Gate senses (R58). -/
inductive GateSense where
  | whenHolds | whenClear
  deriving DecidableEq, Repr, Inhabited

/-- Comparisons of a LEVEL watch (R62). -/
inductive Comparison where
  | above | atOrAbove | below | atOrBelow | equal | notEqual | inside | outside
  deriving DecidableEq, Repr, Inhabited

/-- Timing conditions (R65). -/
inductive TimingCondition where
  | missing | lateOrMissing | early
  deriving DecidableEq, Repr, Inhabited

/-- Port conditions (R68). -/
inductive PortCondition where
  | busOff | passiveOrWorse
  deriving DecidableEq, Repr, Inhabited

/-- Supply conditions (R69). -/
inductive SupplyCondition where
  | low | over | notNormal
  deriving DecidableEq, Repr, Inhabited

/-- Watch results (R60). -/
inductive WatchResult where
  | holds | clear | untested
  deriving DecidableEq, Repr, Inhabited

/-- Reasons of an UNTESTED watch (R60). -/
inductive Reason where
  | notYet | gated | supply | input | notRunning
  deriving DecidableEq, Repr, Inhabited

/-- Systems of a fault (R78). -/
inductive FaultSystem where
  | engine | brake
  deriving DecidableEq, Repr, Inhabited

/-- Classes of a fault (R78). -/
inductive FaultClass where
  | selfHealing | latched
  deriving DecidableEq, Repr, Inhabited

/-- Lamp modes in their order OFF < STEADY < SLOW < FAST (R124). -/
inductive LampMode where
  | off | steady | slow | fast
  deriving DecidableEq, Repr, Inhabited

/-- Debounce states of a fault (R80). -/
inductive DebounceState where
  | notTested | passed | pending | active | healing
  deriving DecidableEq, Repr, Inhabited

/-- Report events (R133). -/
inductive EventKind where
  | confirmed | healed | aged
  deriving DecidableEq, Repr, Inhabited

/-- Store states (R158). -/
inductive StoreState where
  | valid | writing | invalid
  deriving DecidableEq, Repr, Inhabited

/-- Responder states (R149). -/
inductive ResponderState where
  | idle | sending
  deriving DecidableEq, Repr, Inhabited

/-- Results of a service request (R148). -/
inductive ServiceResult where
  | ok | busy | notStationary | badRequest | badIndex | badValue | inconsistent | supply | storeBusy
  deriving DecidableEq, Repr, Inhabited

/-- The tables a service tool names (R156). -/
inductive TableName where
  | settings | frames | signals | watches | faults
  deriving DecidableEq, Repr, Inhabited

/-- The scopes of a CLEAR (R157). -/
inductive ClearScope where
  | all | engine | brake | code (c : Nat)
  deriving DecidableEq, Repr, Inhabited

/-- A service request as the Service Responder decodes it (R148, R178): the twelve requests, and the request
frame that names none of them or is too short. -/
inductive Request where
  | readStatus (page : Byte)
  | readRecord (slot : Byte)
  | readFrameState (index : Byte)
  | readSignal (index : Byte)
  | readWatch (index : Byte)
  | readFaultState (index : Byte)
  | readTable (table index field : Byte)
  | writeTable (table index field : Byte) (value : BitVec 32)
  | revert
  | clear (scope : Byte) (code : BitVec 16)
  | commit
  | restart
  | badRequest (code : Byte)
  deriving DecidableEq, Repr

/-! ## Table rows -/

/-- One Frame Table entry (R11). -/
structure FrameEntry where
  port : Port
  ident : Nat
  length : Nat
  route : Route
  counterPresent : Bool
  counterByte : Nat
  counterNibble : Nibble
  checksumPresent : Bool
  checksumByte : Nat
  seed : Nat
  timing : FrameTiming
  minPeriod : Nat
  maxPeriod : Nat
  timeout : Nat
  deriving DecidableEq, Repr

/-- One Signal Table entry (R40). -/
structure SignalEntry where
  frameEntry : Nat
  extraction : Extraction
  bytePos : Nat
  bitOffset : Nat
  width : Nat
  signed : Bool
  gain : Int
  shift : Nat
  offset : Int
  naPresent : Bool
  naRaw : Int
  deriving DecidableEq, Repr

/-- A defect mask: any set of the four defects (R59, R179). -/
structure DefectMask where
  length : Bool
  checksum : Bool
  repeated : Bool
  skip : Bool
  deriving DecidableEq, Repr

/-- One Watch Table entry (R58, R59). -/
structure WatchEntry where
  kind : WatchKind
  gatePresent : Bool
  gateWatch : Nat
  gateSense : GateSense
  needsNormal : Bool
  linkPresent : Bool
  link : Nat
  signalA : Nat
  signalB : Nat
  comparison : Comparison
  thresholdA : Int
  thresholdB : Int
  limit : Nat
  skew : Nat
  frameEntry : Nat
  timingCondition : TimingCondition
  defectMask : DefectMask
  code : Nat
  port : Port
  portCondition : PortCondition
  supplyCondition : SupplyCondition
  deriving DecidableEq, Repr

/-- One Fault Table entry (R78). `snapshots` holds the six index fields, of which the first
`snapshotLength` make the snapshot list. -/
structure FaultEntry where
  code : Nat
  system : FaultSystem
  cls : FaultClass
  severity : Nat
  threshold : Nat
  upStep : Nat
  downStep : Nat
  passResets : Bool
  agingLimit : Nat
  lampMode : LampMode
  snapshotLength : Nat
  snapshots : List Nat
  deriving DecidableEq, Repr

/-- The Settings record (R180). -/
structure Settings where
  frameCount : Nat
  signalCount : Nat
  watchCount : Nat
  faultCount : Nat
  controlRate : Nat
  vehicleRate : Nat
  routeToVehicle : DefaultRoute
  routeToControl : DefaultRoute
  requestId : Nat
  responseId : Nat
  statusId : Nat
  reportId : Nat
  statusPeriod : Nat
  reportsPerWindow : Nat
  startGrace : Nat
  bulbCheck : Nat
  speedPresent : Bool
  speedSignal : Nat
  verifySpeed : Nat
  slowPattern : Pattern
  fastPattern : Pattern
  deriving DecidableEq, Repr

/-- One full copy of the Settings and the four tables, each table at its full capacity (R155). -/
structure Tables where
  settings : Settings
  frames : List FrameEntry
  signals : List SignalEntry
  watches : List WatchEntry
  faults : List FaultEntry
  deriving DecidableEq, Repr

/-! ## Blank entries and defaults -/

/-- A blank Frame Table entry (R155). -/
def FrameEntry.blank : FrameEntry where
  port := .control
  ident := 0
  length := 0
  route := .forward
  counterPresent := false
  counterByte := 0
  counterNibble := .low
  checksumPresent := false
  checksumByte := 0
  seed := 0
  timing := .event
  minPeriod := 0
  maxPeriod := 1
  timeout := 1

/-- A blank Signal Table entry (R155). DEDUCED (log entry 13): a field whose values read "YES or NO" is at
YES, the first value listed. -/
def SignalEntry.blank : SignalEntry where
  frameEntry := 0
  extraction := .bits
  bytePos := 0
  bitOffset := 0
  width := 1
  signed := true
  gain := -32768
  shift := 0
  offset := -8388608
  naPresent := false
  naRaw := -32768

/-- The empty defect mask, the number 0 (R179). -/
def DefectMask.empty : DefectMask := ⟨false, false, false, false⟩

/-- A blank Watch Table entry (R155). DEDUCED (log entry 13): needs-normal-supply is at YES. -/
def WatchEntry.blank : WatchEntry where
  kind := .level
  gatePresent := false
  gateWatch := 0
  gateSense := .whenHolds
  needsNormal := true
  linkPresent := false
  link := 0
  signalA := 0
  signalB := 0
  comparison := .above
  thresholdA := -2147483648
  thresholdB := -2147483648
  limit := 0
  skew := 1
  frameEntry := 0
  timingCondition := .missing
  defectMask := .empty
  code := 1
  port := .control
  portCondition := .busOff
  supplyCondition := .low

/-- A blank Fault Table entry, with code 0 (R79, R155). DEDUCED (log entry 13): pass-resets is at YES. -/
def FaultEntry.blank : FaultEntry where
  code := 0
  system := .engine
  cls := .selfHealing
  severity := 1
  threshold := 1
  upStep := 1
  downStep := 1
  passResets := true
  agingLimit := 0
  lampMode := .off
  snapshotLength := 0
  snapshots := [0, 0, 0, 0, 0, 0]

/-- The Settings defaults (R180). -/
def Settings.default : Settings where
  frameCount := 0
  signalCount := 0
  watchCount := 0
  faultCount := 0
  controlRate := 500
  vehicleRate := 500
  routeToVehicle := .forward
  routeToControl := .forward
  requestId := 0x7C0
  responseId := 0x7C1
  statusId := 0x7C2
  reportId := 0x7C3
  statusPeriod := 500
  reportsPerWindow := 4
  startGrace := 1500
  bulbCheck := 2000
  speedPresent := false
  speedSignal := 0
  verifySpeed := 0
  slowPattern := 0x00FF
  fastPattern := 0x3333

/-- The default tables: the Settings defaults and every table entry blank (R155). -/
def Tables.default : Tables where
  settings := .default
  frames := List.replicate 96 .blank
  signals := List.replicate 64 .blank
  watches := List.replicate 128 .blank
  faults := List.replicate 64 .blank

/-! ## Ports and queues -/

/-- A frame in a transmit queue or waiting outside it. `restartOk` marks the OK frame of an accepted RESTART,
whose loss abandons the restart (R162). -/
structure TxFrame where
  frame : CanFrame
  restartOk : Bool
  deriving DecidableEq, Repr, Inhabited

/-- The state of one port (01_frame_path, "The two ports"). -/
structure PortRecord where
  state : PortState
  txErrors : Nat
  rxErrors : Nat
  recovery : Nat
  bitRate : Nat
  queue : List TxFrame
  forwardDrop : Nat
  unknown : Nat
  deriving DecidableEq, Repr

/-! ## Runtime records of the pipeline -/

/-- A Frame Monitor runtime record (R20). `timer` is absent while STOPPED and holds the expiry time while
RUNNING. -/
structure FrameRecord where
  state : ArrivalState
  last : Option Nat
  counter : Option Nat
  timer : Option Nat
  fresh : Nat
  damaged : Nat
  repeated : Nat
  lost : Nat
  early : Nat
  late : Nat
  missing : Nat
  deriving DecidableEq, Repr

/-- A Signal Cache entry (R48). -/
structure CacheEntry where
  value : Int
  status : SignalStatus
  update : Option Nat
  deriving DecidableEq, Repr, Inhabited

/-- A watch record (R60). -/
structure WatchRecord where
  result : WatchResult
  reason : Option Reason
  time : Nat
  deriving DecidableEq, Repr

/-- The volatile part of a fault's state (R80). -/
structure FaultState where
  state : DebounceState
  counter : Nat
  deriving DecidableEq, Repr

/-- The two ride flags of a fault (R80, R91). -/
structure RideFlags where
  tested : Bool
  confirmed : Bool
  deriving DecidableEq, Repr, Inhabited

/-! ## Fault memory -/

/-- One snapshot (R87, R102). -/
structure Snapshot where
  index : Nat
  value : Int
  status : SignalStatus
  deriving DecidableEq, Repr, Inhabited

/-- A ride number and a ride time, as a confirmation carries them (R102). -/
structure Stamp where
  ride : Nat
  time : Nat
  deriving DecidableEq, Repr, Inhabited

/-- A record of the fault memory (R102). -/
structure Record where
  code : Nat
  system : FaultSystem
  cls : FaultClass
  severity : Nat
  occurrences : Nat
  first : Stamp
  last : Stamp
  cleanRides : Nat
  firstFrame : List Snapshot
  latestFrame : Option (List Snapshot)
  deriving DecidableEq, Repr, Inhabited

/-- A memory slot (R101). A WRITING slot holds the code of the entry being written and nothing else that is
defined. -/
inductive Slot where
  | empty
  | writing (code : Nat)
  | active (record : Record)
  | stored (record : Record)
  deriving DecidableEq, Repr, Inhabited

/-- The memory flags (R103). -/
structure MemoryFlags where
  memoryLost : Bool
  memoryFull : Bool
  recordLost : Bool
  deferredOverflow : Bool
  deriving DecidableEq, Repr, Inhabited

/-- Retained memory (R166). -/
structure Retained where
  mark : Bool
  slots : List Slot
  flags : MemoryFlags
  rideFlags : List RideFlags
  rideNumber : Nat
  rideOpen : Bool
  rideClock : Nat
  verified : Bool
  restarts : Nat
  lastReset : ResetKind
  deriving DecidableEq, Repr, Inhabited

/-- The contents of a CONFIRM entry (R104). -/
structure ConfirmEntry where
  code : Nat
  system : FaultSystem
  cls : FaultClass
  severity : Nat
  stamp : Stamp
  snapshots : List Snapshot
  deriving DecidableEq, Repr

/-- An entry of the record write queue (R104). A HEAL entry carries the ride time of its heal beside its code (R172),
where R88 and R104 list the code alone; no rule reads that time (DEDUCED, log entry 40). -/
inductive WriteEntry where
  | confirm (e : ConfirmEntry)
  | heal (code time : Nat)
  | age (codes : List Nat)
  deriving DecidableEq, Repr

/-- The slot write in progress (R106): the slot, the record it held that the write continues (absent when a
new record is made), the time since the begin event, and the time the write takes. -/
structure SlotWrite where
  slot : Nat
  base : Option Record
  elapsed : Nat
  duration : Nat
  deriving DecidableEq, Repr

/-! ## Lamps, reports, responder, store -/

/-- The state of one lamp (R123). -/
structure Lamp where
  mode : LampMode
  running : Pattern
  pendingPattern : Option Pattern
  deriving DecidableEq, Repr

/-- An entry of the report queue (R133). -/
structure ReportEntry where
  code : Nat
  system : FaultSystem
  severity : Nat
  event : EventKind
  superseded : Bool
  eventTime : Nat
  queueTime : Nat
  deriving DecidableEq, Repr

/-- The report pacer (R138 to R140). `nextSlot` is the slot that begins next, 16 when all of the window's
slots have begun; `elapsed` is the time since the window began. -/
structure Pacer where
  running : Bool
  nextSlot : Nat
  elapsed : Nat
  rate : Nat
  pendingRate : Option Nat
  deriving DecidableEq, Repr

/-- The data of a multi-frame response, frozen at acceptance (R151). `stored` tells a STORED slot from an
ACTIVE one. -/
inductive FrozenCopy where
  | record (stored : Bool) (r : Record)
  | frameState (r : FrameRecord)
  | signal (c : CacheEntry)
  deriving DecidableEq, Repr

/-- The state of the Service Responder (R149). `departed`: a frame has left the vehicle queue and the offer
that the departure calls for has not been made (R8, R150). `restartDue`: the vehicle queue has become empty by
a successful transmission with the restart pending (R162). `partWaits`: the waiting frame is the part `nextPart`
of the frozen copy, which has not joined the queue yet (R149, R150; log entry 34). -/
structure Responder where
  state : ResponderState
  copy : Option FrozenCopy
  nextPart : Nat
  waiting : Option TxFrame
  restartPending : Bool
  departed : Bool
  restartDue : Bool
  partWaits : Bool
  deriving DecidableEq, Repr

/-- The Settings Store (R158): its state, the copy it holds, the time since a store write began, and the time
that write takes. -/
structure Store where
  state : StoreState
  tables : Tables
  elapsed : Nat
  duration : Nat
  deriving DecidableEq, Repr

/-- The model's source of free choices: numbers a reader of the model may supply, and a counter into
`Config.freeChoice`, which answers when none is supplied (log entry 4). -/
structure FreeSource where
  supplied : List Nat
  count : Nat
  deriving DecidableEq, Repr

end Sys2Proof.Machine
end

