-- ==== Sys2Proof/Config.lean ====
section
/-! DEFINITION. What the manual leaves open, as constants without a body, and the capacities and limits the
manual fixes. -/

namespace Sys2Proof.Config

/-- A free choice: the order of two things that the manual lets happen in either order, or a duration the
manual only bounds. Nothing is known of its values (log entry 4). -/
opaque freeChoice : Nat → Nat

/-- What retained memory holds after the battery has fallen below 3.0 V: R166 says its contents are lost, and
nothing of what stands in their place (log entry 7). -/
opaque lostRetained : Nat → Machine.Retained

/-- Frames in a transmit queue (R6). -/
def transmitCapacity : Nat := 8

/-- Entries in the record write queue (R104). -/
def writeCapacity : Nat := 8

/-- Entries in the report queue (R134). -/
def reportCapacity : Nat := 16

/-- Slots of the fault memory (R101). -/
def slotCount : Nat := 32

/-- Indices of the retained ride flags (R91, R166). -/
def flagCount : Nat := 64

/-- The value at which the ride clock saturates (R39, R172). -/
def clockLimit : Nat := 4294967295

/-- The value at which an 8-bit count saturates (R15, R136, R171). -/
def count8 : Nat := 255

/-- The value at which a per-ride frame count saturates (R35). -/
def count16 : Nat := 65535

/-- Bulb check, lamp cycle: steps of 125 ms (R127). -/
def lampStepMs : Nat := 125

/-- The supply is sampled every 10 ms (R163). -/
def sampleMs : Nat := 10

/-- The KEY line settles in 20 ms (R169). -/
def settleMs : Nat := 20

/-- A pacer slot lasts 20 ms and a window 320 ms (R138). -/
def slotMs : Nat := 20

/-- AFTER_RUN ends at its limit after 2000 ms (R174). -/
def afterRunMs : Nat := 2000

/-- A slot write takes at most 5 ms (R106). -/
def slotWriteMs : Nat := 5

/-- A store write takes at most 300 ms (R158). -/
def storeWriteMs : Nat := 300

end Sys2Proof.Config
end

