-- ==== Sys2Proof/Machine/State.lean ====
section
/-! DEFINITION. The state of the module, as plain data, and the state after reset. -/

namespace Sys2Proof.Machine

/-- Why a command stops the machine with a fault: for no reason. The manual describes no event that stops the module,
so the type has no constructor. -/
inductive Fault where
  deriving DecidableEq, Repr

/-- Why a command is refused. -/
inductive Refusal where
  /-- Raised by `exec` for a command that has no meaning yet. Safe. No command of this model is so refused. -/
  | notModelled (mnemonic : String)
  deriving DecidableEq, Repr

/-- The state of the module. INVENTORY.md lists each field with the rule that names it and its value after
reset. The fields under "the model's own" are not the manual's. -/
structure State where
  /-- The power state (00_scope, R167 to R175). -/
  power : PowerState
  /-- How far STARTING has come (R165, R167). -/
  stage : StartStage
  /-- The kind of the reset that the next start follows (R165). -/
  resetKind : ResetKind
  /-- The voltage at BATT in steps of 0.1 V, as last commanded (R163). -/
  battery : Nat
  /-- The supply band (R163). -/
  band : Band
  /-- Samples taken since the last supply evaluation, 0 to 9 (R164). -/
  sampleCount : Nat
  /-- The level of the KEY line, `true` for on (R169). -/
  keyLine : Bool
  /-- The settled level of the KEY line; absent after a reset until the line settles (R169). -/
  keySettled : Option Bool
  /-- The source of the Timebase (R176). -/
  timebase : TimebaseSource
  /-- The degraded flag of the Timebase (R176). -/
  degraded : Bool
  /-- Whether the crystal runs, as last detected (R176). -/
  crystalRuns : Bool
  /-- Retained memory (R166). -/
  retained : Retained
  /-- The Settings Store (R158). -/
  store : Store
  /-- STORE_FAILED (R158, R161). -/
  storeFailed : Bool
  /-- Set while the module is not UNCONFIGURED (R161). -/
  configured : Bool
  /-- The working tables (R155). -/
  working : Tables
  /-- The staging tables (R155). -/
  staging : Tables
  /-- The Control Port (R1 to R8). -/
  control : PortRecord
  /-- The Vehicle Port (R1 to R8). -/
  vehicle : PortRecord
  /-- The identifier-clash count (R15). -/
  clashes : Nat
  /-- The Frame Monitor's runtime records, one for each working entry (R20). -/
  monitor : List FrameRecord
  /-- The Signal Cache, one entry for each working signal (R48). -/
  cache : List CacheEntry
  /-- The watch records, one for each working watch (R60). -/
  watches : List WatchRecord
  /-- The volatile fault states, one for each working fault (R80). -/
  faults : List FaultState
  /-- The record write queue, oldest first (R104). -/
  writeQueue : List WriteEntry
  /-- The slot write in progress (R106). -/
  write : Option SlotWrite
  /-- The ENGINE lamp, on LAMP-E (R123). -/
  engineLamp : Lamp
  /-- The BRAKE lamp, on LAMP-B (R123). -/
  brakeLamp : Lamp
  /-- The step position (R123, R127). -/
  stepPos : Nat
  /-- The step position has returned to 0 and the cycle boundary has not been taken (R127, R128). -/
  boundaryDue : Bool
  /-- The bulb check: absent, or in progress with the number of cycle boundaries to its end (R129). -/
  bulbCheck : Option Nat
  /-- The report queue, head first (R133). -/
  reports : List ReportEntry
  /-- The reports-dropped count (R136). -/
  reportsDropped : Nat
  /-- The report pacer (R138). -/
  pacer : Pacer
  /-- The status broadcast timer: absent while stopped, else the period it runs (R144). -/
  statusPeriod : Option Nat
  /-- The Service Responder (R149). -/
  responder : Responder
  /-- AFTER_RUN has reached its limit and waits for a write in progress (R174). -/
  limitPassed : Bool
  /-- The model's own: time since the last supply sample (R163, R176). -/
  sampleElapsed : Nat
  /-- The model's own: time the KEY line has held its level (R169, R176). -/
  keyElapsed : Nat
  /-- The model's own: time since the last lamp step or ride start (R127, R176). -/
  lampElapsed : Nat
  /-- The model's own: time since the status timer was last started (R144, R176). -/
  statusElapsed : Nat
  /-- The model's own: time since AFTER_RUN began (R174, R176). -/
  afterRunElapsed : Nat
  /-- The model's own: the source of free choices (log entry 4). -/
  free : FreeSource
  /-- The model's own: the commands that are waiting, first in, first out. -/
  pending : List Instr
  deriving DecidableEq, Repr

/-- A port as it is in STARTING: OFF, with an empty queue and every count 0 (R16). -/
def PortRecord.fresh (bitRate : Nat) : PortRecord where
  state := .off
  txErrors := 0
  rxErrors := 0
  recovery := 0
  bitRate := bitRate
  queue := []
  forwardDrop := 0
  unknown := 0

/-- A lamp whose line is released and whose mode is OFF (R131). -/
def Lamp.dark : Lamp where
  mode := .off
  running := 0
  pendingPattern := none

/-- The pacer while it is stopped (R138). Its rate in use is then 0: R147 gives no value there (DESIGN CHOICE, log
entry 38). -/
def Pacer.stopped : Pacer where
  running := false
  nextSlot := 0
  elapsed := 0
  rate := 0
  pendingRate := none

/-- The Service Responder at the end of STARTING (R149). -/
def Responder.initial : Responder where
  state := .idle
  copy := none
  nextPart := 0
  waiting := none
  restartPending := false
  departed := false
  restartDue := false
  partWaits := false

/-- Retained memory as the model takes it at the first connection of a battery: the mark is absent, so the
start that follows is cold and reads none of the other values (R166; log entry 5). -/
def Retained.initial : Retained where
  mark := false
  slots := List.replicate Config.slotCount .empty
  flags := ⟨false, false, false, false⟩
  rideFlags := List.replicate Config.flagCount ⟨false, false⟩
  rideNumber := 0
  rideOpen := false
  rideClock := 0
  verified := false
  restarts := 0
  lastReset := .powerOn

/-- The Settings Store as the model takes it before any COMMIT: no validity mark (log entry 6). -/
def Store.initial : Store where
  state := .invalid
  tables := .default
  elapsed := 0
  duration := 0

/-- The module right after reset: the POWER_ON reset of the first connection of a battery, held until the
supply reaches 6.3 V (R165). DESIGN CHOICE (log entries 5 and 6): the battery at 3.0 V, the KEY line off, the
crystal running, the store without its validity mark. DESIGN CHOICE (log entries 30 and 36): before the first
start the tables are the defaults and both ports have the bit rate of the defaults, 500 kbit/s. -/
def State.reset : State where
  power := .starting
  stage := .held
  resetKind := .powerOn
  battery := 30
  band := .low
  sampleCount := 0
  keyLine := false
  keySettled := none
  timebase := .crystal
  degraded := false
  crystalRuns := true
  retained := .initial
  store := .initial
  storeFailed := false
  configured := false
  working := .default
  staging := .default
  control := .fresh 500
  vehicle := .fresh 500
  clashes := 0
  monitor := []
  cache := []
  watches := []
  faults := []
  writeQueue := []
  write := none
  engineLamp := .dark
  brakeLamp := .dark
  stepPos := 0
  boundaryDue := false
  bulbCheck := none
  reports := []
  reportsDropped := 0
  pacer := .stopped
  statusPeriod := none
  responder := .initial
  limitPassed := false
  sampleElapsed := 0
  keyElapsed := 0
  lampElapsed := 0
  statusElapsed := 0
  afterRunElapsed := 0
  free := ⟨[], 0⟩
  pending := []

end Sys2Proof.Machine
end

