-- ==== Sys2Proof/Machine/Ops.lean ====
section
/-! DEFINITION. The operations every block shares: saturating counts, reads of the working tables, the ride
clock, free choices, and the named updates of the state. -/

/-- The opposite port (01_frame_path, "Routing received frames"). -/
def Sys2Proof.Port.opposite : Sys2Proof.Port → Sys2Proof.Port
  | .control => .vehicle
  | .vehicle => .control

namespace Sys2Proof.Machine

/-! ## Counts -/

/-- A count raised by `k` that saturates at `limit` (00_scope, "Saturating counts"). -/
def saturate (limit n k : Nat) : Nat := min limit (n + k)

/-- `n` divided by `d`, rounded up. -/
def ceilDiv (n d : Nat) : Nat := (n + d - 1) / d

/-! ## Lists by index -/

/-- Each element replaced by a function of its index and itself. -/
def mapFrom {α β : Type} (f : Nat → α → β) : Nat → List α → List β
  | _, [] => []
  | i, x :: xs => f i x :: mapFrom f (i + 1) xs

/-- The first `n` elements of a table: the entries that a count brings into use (R155). -/
def inUse {α : Type} (n : Nat) (xs : List α) : List α := xs.take n

/-- The element at an index when the index is in use. -/
def entryAt {α : Type} (n : Nat) (xs : List α) (i : Nat) : Option α := if i < n then xs[i]? else none

/-! ## The working tables -/

/-- The working Frame Table entries (R10). -/
def Tables.frameList (t : Tables) : List FrameEntry := inUse t.settings.frameCount t.frames

/-- The working Signal Table entries (R40). -/
def Tables.signalList (t : Tables) : List SignalEntry := inUse t.settings.signalCount t.signals

/-- The working Watch Table entries (R58). -/
def Tables.watchList (t : Tables) : List WatchEntry := inUse t.settings.watchCount t.watches

/-- The working Fault Table entries (R78). -/
def Tables.faultList (t : Tables) : List FaultEntry := inUse t.settings.faultCount t.faults

/-- The working fault that holds a code (R78: at most one does). -/
def Tables.faultOf (t : Tables) (code : Nat) : Option FaultEntry := t.faultList.find? (·.code == code)

/-- The bit rate the Settings give a port (R2). -/
def Settings.rateOf (t : Settings) : Port → Nat
  | .control => t.controlRate
  | .vehicle => t.vehicleRate

/-- The pattern of a mode (R126). -/
def Settings.patternOf (t : Settings) : LampMode → Pattern
  | .off => 0x0000
  | .steady => 0xFFFF
  | .slow => t.slowPattern
  | .fast => t.fastPattern

/-! ## Ports -/

/-- The record of a port. -/
def State.port (s : State) : Port → PortRecord
  | .control => s.control
  | .vehicle => s.vehicle

/-- The state with one port's record replaced. -/
def State.setPort (s : State) (p : Port) (r : PortRecord) : State :=
  match p with
  | .control => { s with control := r }
  | .vehicle => { s with vehicle := r }

/-! ## Power states and time -/

/-- The power state is RUNNING. -/
def State.isRunning (s : State) : Bool := s.power == .running

/-- The power state is AFTER_RUN. -/
def State.inAfterRun (s : State) : Bool := s.power == .afterRun

/-- The module takes requests, and its pacer and status timer run: RUNNING or AFTER_RUN (R148, R138, R144). -/
def State.isAwake (s : State) : Bool := s.isRunning || s.inAfterRun

/-- The ride time now (R172). -/
def State.now (s : State) : Nat := s.retained.rideClock

/-- The current ride number and ride time. -/
def State.stamp (s : State) : Stamp := ⟨s.retained.rideNumber, s.now⟩

/-- The state with retained memory replaced. -/
def State.withRetained (s : State) (r : Retained) : State := { s with retained := r }

/-- The state with the Service Responder replaced. -/
def State.withResponder (s : State) (r : Responder) : State := { s with responder := r }

/-! ## Free choices (log entry 4) -/

/-- The next free choice: the first number supplied, or the next value of `Config.freeChoice`. -/
def FreeSource.draw (f : FreeSource) : Nat × FreeSource :=
  match f.supplied with
  | k :: ks => (k, { f with supplied := ks })
  | [] => (Config.freeChoice f.count, { f with count := f.count + 1 })

/-- A list in an order that the free choices pick, where the manual gives none. A list of at most one element
draws nothing. The first argument is the number of elements still to be placed. -/
def FreeSource.arrange {α : Type} : Nat → List α → FreeSource → List α × FreeSource
  | 0, xs, f => (xs, f)
  | n + 1, xs, f =>
    if xs.length ≤ 1 then (xs, f)
    else
      let i := f.draw.1 % xs.length
      let rest := FreeSource.arrange n (xs.eraseIdx i) f.draw.2
      (xs[i]?.toList ++ rest.1, rest.2)

end Sys2Proof.Machine
end

