-- ==== Sys2Proof/Machine/Formats.lean ====
section
/-! DEFINITION. Bytes and codes: the byte order of fields, the numeric codes of R181, and the layouts of the
status frame, the report frame and every answer of the Service Responder (R177, R178). -/

namespace Sys2Proof.Machine

/-! ## Bytes -/

/-- The byte that carries a number from 0 to 255. -/
def byteOf (n : Nat) : Byte := BitVec.ofNat 8 n

/-- A 16-bit field, high byte first (11_frame_and_record_formats). -/
def bytes16 (n : Nat) : List Byte := [byteOf (n / 256), byteOf n]

/-- A 32-bit field, high byte first (11_frame_and_record_formats). -/
def bytes32 (n : Nat) : List Byte :=
  [byteOf (n / 16777216), byteOf (n / 65536), byteOf (n / 256), byteOf n]

/-- A signed 32-bit field, high byte first, in two's complement (11_frame_and_record_formats). -/
def bytesSigned (v : Int) : List Byte := bytes32 (BitVec.ofInt 32 v).toNat

/-- A flag as the number 0 or 1. -/
def bit (b : Bool) : Nat := if b then 1 else 0

/-- The data byte at a position; a position beyond the data reads as 0. -/
def byteAt (data : List Byte) (i : Nat) : Nat := (data.getD i 0).toNat

/-! ## Numeric codes (R181) -/

def ServiceResult.code : ServiceResult → Nat
  | .ok => 0 | .busy => 1 | .notStationary => 2 | .badRequest => 3 | .badIndex => 4
  | .badValue => 5 | .inconsistent => 6 | .supply => 7 | .storeBusy => 8

def TableName.code : TableName → Nat
  | .settings => 0 | .frames => 1 | .signals => 2 | .watches => 3 | .faults => 4

/-- The table that a table code names (R156, R181). -/
def TableName.ofCode : Nat → Option TableName
  | 0 => some .settings | 1 => some .frames | 2 => some .signals | 3 => some .watches | 4 => some .faults
  | _ => none

def PowerState.code : PowerState → Nat
  | .starting => 0 | .running => 1 | .afterRun => 2 | .standby => 3

def ResetKind.code : ResetKind → Nat
  | .powerOn => 0 | .supplyDip => 1 | .serviceRestart => 2

def StoreState.code : StoreState → Nat
  | .valid => 0 | .writing => 1 | .invalid => 2

def ResponderState.code : ResponderState → Nat
  | .idle => 0 | .sending => 1

def Slot.stateCode : Slot → Nat
  | .empty => 0 | .writing _ => 1 | .active _ => 2 | .stored _ => 3

def ArrivalState.code : ArrivalState → Nat
  | .neverSeen => 0 | .onTime => 1 | .early => 2 | .late => 3 | .missing => 4

def SignalStatus.code : SignalStatus → Nat
  | .neverSeen => 0 | .valid => 1 | .unavailable => 2 | .stale => 3

def WatchResult.code : WatchResult → Nat
  | .holds => 0 | .clear => 1 | .untested => 2

/-- The code of a reason, 0 when it is absent. -/
def reasonCode : Option Reason → Nat
  | none => 0 | some .notYet => 1 | some .gated => 2 | some .supply => 3 | some .input => 4
  | some .notRunning => 5

def DebounceState.code : DebounceState → Nat
  | .notTested => 0 | .passed => 1 | .pending => 2 | .active => 3 | .healing => 4

def EventKind.code : EventKind → Nat
  | .confirmed => 0 | .healed => 1 | .aged => 2

def LampMode.code : LampMode → Nat
  | .off => 0 | .steady => 1 | .slow => 2 | .fast => 3

def Band.code : Band → Nat
  | .low => 0 | .normal => 1 | .over => 2

def FaultSystem.code : FaultSystem → Nat
  | .engine => 0 | .brake => 1

def FaultClass.code : FaultClass → Nat
  | .selfHealing => 0 | .latched => 1

/-! ## The module's own frames -/

/-- A STANDARD DATA frame of the module (11_frame_and_record_formats). -/
def ownFrame (ident : Nat) (data : List Byte) : CanFrame where
  format := .standard
  ident := ident
  kind := .data
  len := data.length
  data := data

/-- The bytes of a status frame from its contents (R145, R177). -/
def statusBytes (engine brake : LampMode) (band : Band) (engineActive brakeActive recordCount : Nat)
    (flags : MemoryFlags) (unconfigured storeFailed degraded : Bool) (dropped restarts : Nat) : List Byte :=
  [byteOf (engine.code + 4 * brake.code + 16 * band.code),
   byteOf engineActive, byteOf brakeActive, byteOf recordCount,
   byteOf (bit flags.memoryLost + 2 * bit flags.memoryFull + 4 * bit flags.recordLost
     + 8 * bit flags.deferredOverflow + 16 * bit unconfigured + 32 * bit storeFailed + 64 * bit degraded),
   byteOf dropped, byteOf restarts]

/-- The bytes of a report frame from its entry and the occurrence count (R142, R177). -/
def reportBytes (e : ReportEntry) (occurrences : Nat) : List Byte :=
  bytes16 e.code ++
  [byteOf (e.event.code + 4 * bit e.superseded + 8 * e.system.code + 16 * (e.severity - 1)),
   byteOf occurrences] ++ bytes32 e.eventTime

/-! ## Answers of the Service Responder (R178) -/

/-- The two bytes every answer begins with: request code and result. -/
def answerHead (code : Byte) (r : ServiceResult) : List Byte := [code, byteOf r.code]

/-- The snapshots a READ_RECORD answer carries: the first freeze frame, then the latest (R178). -/
def Record.allSnapshots (r : Record) : List Snapshot := r.firstFrame ++ r.latestFrame.getD []

/-- Header part 1 or 2 of a READ_RECORD answer: a confirmation's ride number and ride time, with bits 31 to 28
of the time in byte 1 and bits 27 to 24 in byte 2 (R178). -/
def stampPart (k : Nat) (t : Stamp) : List Byte :=
  [0x02, byteOf (16 * (t.time / 268435456)), byteOf (k + 16 * (t.time / 16777216 % 16))]
    ++ bytes16 t.ride ++ [byteOf (t.time / 65536), byteOf (t.time / 256), byteOf t.time]

/-- Header part 0 of a READ_RECORD answer (R178). -/
def recordPart (stored : Bool) (r : Record) : List Byte :=
  [0x02, 0,
   byteOf (16 * (if stored then 3 else 2) + 64 * r.system.code + 128 * r.cls.code)]
    ++ bytes16 r.code ++
  [byteOf r.occurrences, byteOf r.cleanRides,
   byteOf (r.firstFrame.length
     + 8 * (match r.latestFrame with | none => 7 | some l => l.length)
     + 64 * (r.severity - 1))]

/-- A snapshot part of a READ_RECORD answer (R178). -/
def snapshotPart (k : Nat) (x : Snapshot) : List Byte :=
  [0x02, 0, byteOf k, byteOf (x.index + 64 * x.status.code)] ++ bytesSigned x.value

/-- The stream of a READ_FRAME_STATE answer (R178). -/
def FrameRecord.stream (r : FrameRecord) : List Byte :=
  [byteOf (r.state.code + 8 * bit r.last.isSome + 16 * bit r.counter.isSome + 32 * bit r.timer.isSome),
   byteOf (r.counter.getD 0)]
    ++ bytes32 (r.last.getD 0) ++ bytes32 (r.timer.getD 0)
    ++ bytes16 r.fresh ++ bytes16 r.damaged ++ bytes16 r.repeated ++ bytes16 r.lost
    ++ bytes16 r.early ++ bytes16 r.late ++ bytes16 r.missing ++ [0]

/-- The stream of a READ_SIGNAL answer (R178). -/
def CacheEntry.stream (c : CacheEntry) : List Byte :=
  [byteOf (c.status.code + 4 * bit c.update.isSome)]
    ++ bytesSigned c.value ++ bytes32 (c.update.getD 0) ++ [0]

/-- Part `k` of an answer that carries a stream: five stream bytes from byte 3 on (R178). -/
def streamPart (code : Byte) (stream : List Byte) (k : Nat) : List Byte :=
  [code, 0, byteOf k] ++ (stream.drop (5 * k)).take 5

/-- How many parts a multi-frame response has (R151). -/
def FrozenCopy.partCount : FrozenCopy → Nat
  | .record _ r => 3 + r.allSnapshots.length
  | .frameState _ => 5
  | .signal _ => 2

/-- Part `k` of a multi-frame response, formed from the frozen copy (R151, R178). -/
def FrozenCopy.part (c : FrozenCopy) (k : Nat) : List Byte :=
  match c with
  | .record stored r =>
    match k with
    | 0 => recordPart stored r
    | 1 => stampPart 1 r.first
    | 2 => stampPart 2 r.last
    | _ => match r.allSnapshots[k - 3]? with
      | some x => snapshotPart k x
      | none => []
  | .frameState r => streamPart 0x03 r.stream k
  | .signal x => streamPart 0x04 x.stream k

end Sys2Proof.Machine
end

