-- ==== Sys2Proof/Machine/Judgement.lean ====
section
/-! DEFINITION. How the Frame Monitor judges an arrival and classifies its timing (R22 to R35), as functions
of the entry, its runtime record and the frame. -/

namespace Sys2Proof.Machine

/-! ## Checksum (R24) -/

/-- The checksum register shifted left one bit, with 1Dh combined when the bit shifted out is 1 (R24). -/
def crcShift (r : Byte) : Byte := if r.msb then (r <<< 1) ^^^ 0x1D else r <<< 1

/-- The register after one data byte (R24). -/
def crcByte (r b : Byte) : Byte :=
  crcShift (crcShift (crcShift (crcShift (crcShift (crcShift (crcShift (crcShift (r ^^^ b))))))))

/-- The register after data bytes in ascending order of position, the checksum byte's position skipped. The
second argument is the position of the first of the bytes (R24). -/
def crcOver (skip : Nat) : Nat → Byte → List Byte → Byte
  | _, r, [] => r
  | i, r, b :: bs => crcOver skip (i + 1) (if i = skip then r else crcByte r b) bs

/-- The computed checksum of a frame's data bytes for an entry (R24). -/
def FrameEntry.checksum (e : FrameEntry) (data : List Byte) : Byte :=
  crcOver e.checksumByte 0 (byteOf e.seed) data

/-! ## Rolling counter (R25) -/

/-- The received counter value (R25). -/
def FrameEntry.counterOf (e : FrameEntry) (data : List Byte) : Nat :=
  match e.counterNibble with
  | .low => byteAt data e.counterByte % 16
  | .high => byteAt data e.counterByte / 16

/-- The counter result (R25). -/
inductive CounterResult where
  | absent | resync | ok | repeated | skipped (lost : Nat)
  deriving DecidableEq, Repr

/-- The counter test of an arrival that has passed its length and checksum tests (R25). -/
def counterTest (e : FrameEntry) (r : FrameRecord) (data : List Byte) : CounterResult :=
  if e.counterPresent then
    match r.counter with
    | none => .resync
    | some last =>
      let received := e.counterOf data
      if r.state = .missing then .resync
      else if received = (last + 1) % 16 then .ok
      else if received = last then .repeated
      else .skipped ((received + 31 - last) % 16)
  else .absent

/-! ## Verdict (R23, R26) -/

/-- What the three tests make of an arrival (R26). -/
structure Judgement where
  verdict : Verdict
  defect : Option Defect
  lost : Nat
  deriving DecidableEq, Repr

/-- The judgement of an arrival: length, then checksum, then counter (R23 to R26). -/
def judge (e : FrameEntry) (r : FrameRecord) (data : List Byte) : Judgement :=
  if data.length ≠ e.length then ⟨.damaged, some .length, 0⟩
  else if e.checksumPresent ∧ e.checksum data ≠ data.getD e.checksumByte 0 then
    ⟨.damaged, some .checksum, 0⟩
  else
    match counterTest e r data with
    | .repeated => ⟨.repeated, some .repeated, 0⟩
    | .skipped n => ⟨.fresh, some .skip, n⟩
    | .ok | .resync | .absent => ⟨.fresh, none, 0⟩

/-! ## Timing (R27 to R30, R34) -/

/-- A period widened while the Timebase is degraded: nine eighths, rounded up (R34). -/
def effective (degraded : Bool) (n : Nat) : Nat := if degraded then ceilDiv (n * 9) 8 else n

/-- The classification of a fresh arrival at ride time `t` (R28, R29, R34). An arrival taken first at its expiry time,
with an effective timeout equal to the effective max period, is ON_TIME by R28; R33 calls every such arrival LATE, and
the model follows R28 (DEDUCED, log entry 37). -/
def classify (e : FrameEntry) (r : FrameRecord) (degraded : Bool) (t : Nat) : ArrivalState :=
  match e.timing with
  | .event => .onTime
  | .periodic =>
    match r.state with
    | .neverSeen => .onTime
    | .missing => .late
    | .onTime | .early | .late =>
      let d := t - r.last.getD t
      if d < e.minPeriod then (if degraded then .onTime else .early)
      else if d ≤ effective degraded e.maxPeriod then .onTime
      else .late

/-- An expiry time, held at the saturated value of the ride clock (R39). -/
def expiryTime (base wait : Nat) : Nat := min Config.clockLimit (base + wait)

/-- The timer after a fresh arrival at ride time `t` (R29, R30). -/
def restartedTimer (e : FrameEntry) (degraded : Bool) (t : Nat) : Option Nat :=
  match e.timing with
  | .event => none
  | .periodic => some (expiryTime t (effective degraded e.timeout))

/-- A runtime record at its initial values, with its timer (R21). -/
def FrameRecord.initial (timer : Option Nat) : FrameRecord where
  state := .neverSeen
  last := none
  counter := none
  timer := timer
  fresh := 0
  damaged := 0
  repeated := 0
  lost := 0
  early := 0
  late := 0
  missing := 0

/-- The timer at an initialisation at ride time `base`: start grace plus effective timeout (R21). -/
def initialTimer (e : FrameEntry) (grace : Nat) (degraded : Bool) (base : Nat) : Option Nat :=
  match e.timing with
  | .event => none
  | .periodic => some (expiryTime base (grace + effective degraded e.timeout))

/-- The record after a fresh arrival at ride time `t` (R26, R28, R30, R35). -/
def FrameRecord.afterFresh (r : FrameRecord) (e : FrameEntry) (degraded : Bool) (t : Nat) (lost : Nat)
    (data : List Byte) : FrameRecord :=
  let c := classify e r degraded t
  { r with
    state := c
    last := some t
    counter := if e.counterPresent then some (e.counterOf data) else none
    timer := restartedTimer e degraded t
    fresh := saturate Config.count16 r.fresh 1
    lost := saturate Config.count16 r.lost lost
    early := saturate Config.count16 r.early (bit (c == .early))
    late := saturate Config.count16 r.late (bit (c == .late)) }

/-- The record after an arrival with its judgement (R26, R35). -/
def FrameRecord.afterArrival (r : FrameRecord) (e : FrameEntry) (degraded : Bool) (t : Nat) (j : Judgement)
    (data : List Byte) : FrameRecord :=
  match j.verdict with
  | .fresh => r.afterFresh e degraded t j.lost data
  | .damaged => { r with damaged := saturate Config.count16 r.damaged 1 }
  | .repeated => { r with repeated := saturate Config.count16 r.repeated 1 }

/-- The record after its timer's expiry (R31, R35). -/
def FrameRecord.afterExpiry (r : FrameRecord) : FrameRecord :=
  { r with state := .missing, timer := none, missing := saturate Config.count16 r.missing 1 }

/-- The runtime records set to their initial values with running timers (R21). -/
def initialMonitor (t : Tables) (degraded : Bool) (base : Nat) : List FrameRecord :=
  t.frameList.map fun e => .initial (initialTimer e t.settings.startGrace degraded base)

/-- The runtime records set to their initial values with every timer STOPPED (R21, R160). -/
def stoppedMonitor (t : Tables) : List FrameRecord := t.frameList.map fun _ => .initial none

end Sys2Proof.Machine
end

