-- ==== Sys2Proof/Machine/Consistency.lean ====
section
/-! DEFINITION. The commit check: which entries of the staging tables are consistent, and the first that is
not (R159, with R41, R59 and R79). -/

namespace Sys2Proof.Machine

/-- The four identifiers of the module's own frames (R9, R180). -/
def Settings.ownIds (t : Settings) : List Nat := [t.requestId, t.responseId, t.statusId, t.reportId]

/-- The Settings check of R159. -/
def Settings.consistent (t : Settings) : Bool :=
  decide t.ownIds.Nodup && (!t.speedPresent || decide (t.speedSignal < t.signalCount))

/-- The order of Frame Table entries: CONTROL before VEHICLE, then by identifier (R10). -/
def FrameEntry.before (a b : FrameEntry) : Bool :=
  match a.port, b.port with
  | .control, .vehicle => true
  | .vehicle, .control => false
  | _, _ => decide (a.ident < b.ident)

/-- The Frames check of R159 for the entry at an index. -/
def Tables.frameConsistent (t : Tables) (i : Nat) (e : FrameEntry) : Bool :=
  (match i with
    | 0 => true
    | k + 1 => match t.frames[k]? with
      | some d => d.before e
      | none => true)
  && (!e.counterPresent || decide (e.counterByte < e.length))
  && (!e.checksumPresent || decide (e.checksumByte < e.length))
  && !(e.counterPresent && e.checksumPresent && e.counterByte == e.checksumByte)
  && (match e.timing with
    | .event => true
    | .periodic => decide (e.minPeriod ≤ e.maxPeriod ∧ e.maxPeriod ≤ e.timeout))
  && !(e.port == .vehicle && t.settings.ownIds.contains e.ident)

/-- The least raw number of an entry (R44). -/
def SignalEntry.rawMin (e : SignalEntry) : Int :=
  if e.signed then
    match e.extraction with
    | .bits => -(2 ^ (e.width - 1) : Nat)
    | .byte => -128
    | .wordBE | .wordLE => -32768
  else 0

/-- The greatest raw number of an entry (R44). -/
def SignalEntry.rawMax (e : SignalEntry) : Int :=
  match e.extraction with
  | .bits => if e.signed then (2 ^ (e.width - 1) : Nat) - 1 else (2 ^ e.width : Nat) - 1
  | .byte => if e.signed then 127 else 255
  | .wordBE | .wordLE => if e.signed then 32767 else 65535

/-- The bytes and bits of an entry lie within its frame (R41). -/
def SignalEntry.fits (e : SignalEntry) (f : FrameEntry) : Bool :=
  match e.extraction with
  | .bits => decide (e.bytePos < f.length ∧ e.bitOffset + e.width ≤ 8)
  | .byte => decide (e.bytePos < f.length)
  | .wordBE | .wordLE => decide (e.bytePos + 1 < f.length ∧ e.bytePos ≤ 6)

/-- The Signals check (R41). -/
def Tables.signalConsistent (t : Tables) (_ : Nat) (e : SignalEntry) : Bool :=
  (match entryAt t.settings.frameCount t.frames e.frameEntry with
    | some f => e.fits f
    | none => false)
  && (!e.naPresent || decide (e.rawMin ≤ e.naRaw ∧ e.naRaw ≤ e.rawMax))

/-- The operands that a watch's kind uses name entries within the counts, and agree with each other
(R59). -/
def Tables.operandsConsistent (t : Tables) (w : WatchEntry) : Bool :=
  match w.kind with
  | .level =>
    decide (w.signalA < t.settings.signalCount)
      && (match w.comparison with
        | .inside | .outside => decide (w.thresholdA ≤ w.thresholdB)
        | _ => true)
  | .pair => decide (w.signalA < t.settings.signalCount ∧ w.signalB < t.settings.signalCount)
  | .timing | .integrity => decide (w.frameEntry < t.settings.frameCount)
  | .code =>
    match entryAt t.settings.frameCount t.frames w.frameEntry with
    | some f => decide (6 ≤ f.length)
    | none => false
  | .port | .supply => true

/-- A present gate names another working watch that has no gate of its own (R59). -/
def Tables.gateConsistent (t : Tables) (i : Nat) (w : WatchEntry) : Bool :=
  !w.gatePresent ||
    (w.gateWatch != i &&
      match entryAt t.settings.watchCount t.watches w.gateWatch with
      | some g => !g.gatePresent
      | none => false)

/-- A present fault link names a working fault that no other working watch links (R59). -/
def Tables.linkConsistent (t : Tables) (i : Nat) (w : WatchEntry) : Bool :=
  !w.linkPresent ||
    (decide (w.link < t.settings.faultCount) &&
      (mapFrom (fun j v => j == i || !(v.linkPresent && v.link == w.link)) 0 t.watchList).all id)

/-- The Watches check (R59). -/
def Tables.watchConsistent (t : Tables) (i : Nat) (w : WatchEntry) : Bool :=
  t.operandsConsistent w && t.gateConsistent i w && t.linkConsistent i w

/-- The snapshot list of a fault: the first of its index fields, up to its length (R78). -/
def FaultEntry.snapshotList (e : FaultEntry) : List Nat := e.snapshots.take e.snapshotLength

/-- The Faults check (R79). -/
def Tables.faultConsistent (t : Tables) (i : Nat) (e : FaultEntry) : Bool :=
  e.code != 0
  && (mapFrom (fun j d => j == i || d.code != e.code) 0 t.faultList).all id
  && e.snapshotList.all fun k => decide (k < t.settings.signalCount)

/-- The index of the first entry that a check refuses. -/
def firstBad {α : Type} (check : Nat → α → Bool) : Nat → List α → Option Nat
  | _, [] => none
  | i, x :: xs => if check i x then firstBad check (i + 1) xs else some i

/-- The table and index of the first inconsistent entry, in the order of R159; absent when the tables are
consistent. -/
def Tables.inconsistency (t : Tables) : Option (TableName × Nat) :=
  if !t.settings.consistent then some (.settings, 0)
  else
    match firstBad t.frameConsistent 0 t.frameList with
    | some i => some (.frames, i)
    | none =>
    match firstBad t.signalConsistent 0 t.signalList with
    | some i => some (.signals, i)
    | none =>
    match firstBad t.watchConsistent 0 t.watchList with
    | some i => some (.watches, i)
    | none =>
    match firstBad t.faultConsistent 0 t.faultList with
    | some i => some (.faults, i)
    | none => none

end Sys2Proof.Machine
end

