-- ==== Sys2Proof/Machine/Debounce.lean ====
section
/-! DEFINITION. The Debouncer: samples, confirmation and heal, ride flags, and the derivation of fault states
from the fault memory (R78 to R100). -/

namespace Sys2Proof.Machine

/-- A FAIL raises the counter, clamped at the confirm threshold (R83). -/
def FaultEntry.failCounter (e : FaultEntry) (c : Nat) : Nat := min e.threshold (c + e.upStep)

/-- A PASS lowers the counter, or returns it to 0 (R84). -/
def FaultEntry.passCounter (e : FaultEntry) (c : Nat) : Nat := if e.passResets then 0 else c - e.downStep

/-- What a sample hands on: nothing, a confirmation, or a heal (R86, R88, R89). -/
inductive SampleOutcome where
  | nothing | confirmation | heal
  deriving DecidableEq, Repr

/-- A FAIL sample (R83, R86, R89). -/
def failSample (e : FaultEntry) (f : FaultState) : FaultState × SampleOutcome :=
  let c := e.failCounter f.counter
  match f.state with
  | .notTested | .passed | .pending =>
    if c = e.threshold then (⟨.active, c⟩, .confirmation) else (⟨.pending, c⟩, .nothing)
  | .active => (⟨.active, c⟩, .nothing)
  | .healing => if c = e.threshold then (⟨.active, c⟩, .nothing) else (⟨.healing, c⟩, .nothing)

/-- A PASS sample that is taken (R84, R88). -/
def passSample (e : FaultEntry) (f : FaultState) : FaultState × SampleOutcome :=
  let c := e.passCounter f.counter
  match f.state with
  | .notTested | .passed | .pending =>
    if c = 0 then (⟨.passed, c⟩, .nothing) else (⟨.pending, c⟩, .nothing)
  | .active | .healing =>
    if c = 0 then (⟨.passed, c⟩, .heal) else (⟨.healing, c⟩, .nothing)

/-- One sample, `fail` for FAIL: a LATCHED fault in ACTIVE ignores a PASS while the verified flag is clear
(R82 to R85). -/
def sampleFault (e : FaultEntry) (verified fail : Bool) (f : FaultState) : FaultState × SampleOutcome :=
  if fail then failSample e f
  else if e.cls == .latched && f.state == .active && !verified then (f, .nothing)
  else passSample e f

/-- The ride flags after a sample (R82, R86, R91). -/
def RideFlags.afterSample (r : RideFlags) (o : SampleOutcome) : RideFlags where
  tested := true
  confirmed := r.confirmed || o == .confirmation

/-- The snapshot of one signal; a signal without a cache entry reads as never seen (R87). -/
def takeSnapshot (cache : List CacheEntry) (k : Nat) : Snapshot :=
  match cache[k]? with
  | some c => ⟨k, c.value, c.status⟩
  | none => ⟨k, 0, .neverSeen⟩

/-- The captured snapshot list of a fault (R87). -/
def FaultEntry.capture (e : FaultEntry) (cache : List CacheEntry) : List Snapshot :=
  e.snapshotList.map (takeSnapshot cache)

/-- A confirmation or a heal as it is handed on: the record write queue entry and the report event (R86,
R88). -/
structure Handed where
  write : WriteEntry
  report : ReportEntry
  deriving DecidableEq, Repr

/-- The report entry that an event of a fault makes when it joins afresh (R133). -/
def freshReport (code : Nat) (system : FaultSystem) (severity : Nat) (event : EventKind) (time : Nat) :
    ReportEntry where
  code := code
  system := system
  severity := severity
  event := event
  superseded := false
  eventTime := time
  queueTime := time

/-- What a confirmation hands on (R86). -/
def FaultEntry.confirmation (e : FaultEntry) (cache : List CacheEntry) (st : Stamp) : Handed where
  write := .confirm ⟨e.code, e.system, e.cls, e.severity, st, e.capture cache⟩
  report := freshReport e.code e.system e.severity .confirmed st.time

/-- What a heal hands on (R88, R172; log entry 40). -/
def FaultEntry.heal (e : FaultEntry) (time : Nat) : Handed where
  write := .heal e.code time
  report := freshReport e.code e.system e.severity .healed time

/-- What an outcome hands on. -/
def FaultEntry.handOn (e : FaultEntry) (cache : List CacheEntry) (st : Stamp) : SampleOutcome → List Handed
  | .nothing => []
  | .confirmation => [e.confirmation cache st]
  | .heal => [e.heal st.time]

/-- The fault states, the ride flags and what has been handed on, as the samples of an event change them. -/
structure Debounced where
  faults : List FaultState
  flags : List RideFlags
  handed : List Handed
  deriving DecidableEq, Repr

/-- What samples read beside the fault's own state. -/
structure SampleContext where
  tables : Tables
  verified : Bool
  cache : List CacheEntry
  stamp : Stamp
  deriving DecidableEq, Repr

/-- One sample reaches the fault of an index (R82); an index without a working fault or a fault state is
reached by none. -/
def takeSample (x : SampleContext) (d : Debounced) (sample : Nat × Bool) : Debounced :=
  match entryAt x.tables.settings.faultCount x.tables.faults sample.1, d.faults[sample.1]? with
  | some e, some f =>
    let r := sampleFault e x.verified sample.2 f
    { faults := d.faults.set sample.1 r.1
      flags := d.flags.modify sample.1 (·.afterSample r.2)
      handed := d.handed ++ e.handOn x.cache x.stamp r.2 }
  | _, _ => d

/-- All samples of one event (R74, R82). -/
def takeSamples (x : SampleContext) (samples : List (Nat × Bool)) (faults : List FaultState)
    (flags : List RideFlags) : Debounced :=
  samples.foldl (takeSample x) ⟨faults, flags, []⟩

/-! ## Derivation (R93) -/

/-- What a write queue entry says of a code: `some true` for a CONFIRM, `some false` for a HEAL (R93). -/
def WriteEntry.viewOf (code : Nat) : WriteEntry → Option Bool
  | .confirm e => if e.code = code then some true else none
  | .heal c _ => if c = code then some false else none
  | .age _ => none

/-- A slot holds an ACTIVE record of a code. -/
def Slot.activeWith (code : Nat) : Slot → Bool
  | .active r => r.code == code
  | _ => false

/-- The memory view of a code is ACTIVE: by the most recently queued CONFIRM or HEAL entry for it, or by the
slots when there is none (R93). -/
def memoryViewActive (slots : List Slot) (queue : List WriteEntry) (code : Nat) : Bool :=
  match (queue.filterMap (WriteEntry.viewOf code)).getLast? with
  | some b => b
  | none => slots.any (Slot.activeWith code)

/-- The derived state of a fault (R93). -/
def FaultEntry.derive (e : FaultEntry) (slots : List Slot) (queue : List WriteEntry) : FaultState :=
  if memoryViewActive slots queue e.code then ⟨.active, e.threshold⟩ else ⟨.notTested, 0⟩

/-- The derived states of the working faults (R93). -/
def deriveFaults (t : Tables) (slots : List Slot) (queue : List WriteEntry) : List FaultState :=
  t.faultList.map (·.derive slots queue)

/-! ## Ride flags (R91, R92) -/

/-- Clear ride flags. -/
def RideFlags.clear : RideFlags := ⟨false, false⟩

/-- The flags of the first `n` indices cleared: new ride start and accepted commit (R91). -/
def clearFlagsBelow (n : Nat) (flags : List RideFlags) : List RideFlags :=
  mapFrom (fun i f => if i < n then .clear else f) 0 flags

/-- The flags at or beyond index `n` cleared: a configured start (R91). -/
def clearFlagsFrom (n : Nat) (flags : List RideFlags) : List RideFlags :=
  mapFrom (fun i f => if n ≤ i then .clear else f) 0 flags

/-- The aging list: the codes of the working faults tested and not confirmed in the ride, in ascending order
of index (R92). -/
def agingList (t : Tables) (flags : List RideFlags) : List Nat :=
  (mapFrom (fun i e =>
    match flags[i]? with
    | some f => if f.tested && !f.confirmed then [e.code] else []
    | none => []) 0 t.faultList).flatten

/-! ## Lamps' and status frame's view of the faults (R90) -/

/-- A fault demands its lamp mode and counts as active: ACTIVE or HEALING (R90). -/
def FaultState.demands (f : FaultState) : Bool := f.state == .active || f.state == .healing

/-- The working faults of a system in ACTIVE or HEALING (R90). -/
def demanding (t : Tables) (faults : List FaultState) (sys : FaultSystem) : List FaultEntry :=
  (mapFrom (fun i e =>
    match faults[i]? with
    | some f => if f.demands && e.system == sys then [e] else []
    | none => []) 0 t.faultList).flatten

/-- The higher of two lamp modes (R124). -/
def LampMode.max (a b : LampMode) : LampMode :=
  match a, b with
  | .fast, _ | _, .fast => .fast
  | .slow, _ | _, .slow => .slow
  | .steady, _ | _, .steady => .steady
  | .off, .off => .off

/-- The demand of a system: the highest lamp mode among its faults in ACTIVE or HEALING (R124). -/
def lampDemand (t : Tables) (faults : List FaultState) (sys : FaultSystem) : LampMode :=
  (demanding t faults sys).foldr (fun e m => e.lampMode.max m) .off

/-- The active count of a system (R90). -/
def activeCount (t : Tables) (faults : List FaultState) (sys : FaultSystem) : Nat :=
  (demanding t faults sys).length

end Sys2Proof.Machine
end

