-- ==== Sys2Proof/Machine/Reports.lean ====
section
/-! DEFINITION. The report queue and the open slots of the pacer (R133 to R143). -/

namespace Sys2Proof.Machine

/-- A report entry after a later event of its code is merged into it (R135). -/
def ReportEntry.merge (e new : ReportEntry) : ReportEntry :=
  { e with event := new.event, eventTime := new.eventTime, superseded := true }

/-- The queue with a new entry behind every entry of equal or higher severity (R134). -/
def insertReport (new : ReportEntry) : List ReportEntry → List ReportEntry
  | [] => [new]
  | e :: es => if new.severity ≤ e.severity then e :: insertReport new es else new :: e :: es

/-- The report queue and the reports-dropped count after an event (R135, R136). By the order of R134 the last
entry is the most recently queued one of the lowest severity. -/
def takeReport (new : ReportEntry) (queue : List ReportEntry) (dropped : Nat) : List ReportEntry × Nat :=
  if queue.any (·.code == new.code) then
    (queue.map fun e => if e.code = new.code then e.merge new else e, dropped)
  else if queue.length < Config.reportCapacity then (insertReport new queue, dropped)
  else
    match queue.getLast? with
    | some e =>
      if e.severity < new.severity then (insertReport new queue.dropLast, saturate Config.count8 dropped 1)
      else (queue, saturate Config.count8 dropped 1)
    | none => (queue, dropped)

/-- The record write queue and DEFERRED_OVERFLOW after an entry is handed on (R105). -/
def joinWrites (new : WriteEntry) (queue : List WriteEntry) (flags : MemoryFlags) :
    List WriteEntry × MemoryFlags :=
  if queue.length < Config.writeCapacity then (queue ++ [new], flags)
  else (queue, { flags with deferredOverflow := true })

/-- The two queues that the Debouncer hands entries to, with what each loses. -/
structure HandedTo where
  writes : List WriteEntry
  flags : MemoryFlags
  reports : List ReportEntry
  dropped : Nat
  deriving DecidableEq, Repr

/-- The queues after one confirmation or heal has been handed on (R86, R88). -/
def HandedTo.take (q : HandedTo) (h : Handed) : HandedTo :=
  let w := joinWrites h.write q.writes q.flags
  let r := takeReport h.report q.reports q.dropped
  { writes := w.1, flags := w.2, reports := r.1, dropped := r.2 }

/-- Slot `slot` of a window at rate `k` is open (R139). -/
def slotOpen (k slot : Nat) : Bool := decide (slot * k / 16 < (slot + 1) * k / 16)

end Sys2Proof.Machine
end

