-- ==== Sys2Proof/Machine/MemoryRules.lean ====
section
/-! DEFINITION. The Fault Memory Controller: which slot a write concerns, what a completion leaves in it, and
what CLEAR removes (R101 to R122). -/

namespace Sys2Proof.Machine

/-- The record of an ACTIVE or STORED slot (R101). -/
def Slot.record : Slot → Option Record
  | .active r => some r
  | .stored r => some r
  | .empty => none
  | .writing _ => none

/-- The slot is WRITING. -/
def Slot.isWriting : Slot → Bool
  | .writing _ => true
  | _ => false

/-- The slot is EMPTY. -/
def Slot.isEmpty : Slot → Bool
  | .empty => true
  | _ => false

/-- The slot's ACTIVE or STORED record holds a code. -/
def Slot.holds (code : Nat) (x : Slot) : Bool :=
  match x.record with
  | some r => r.code == code
  | none => false

/-- The stored record: the record of a STORED slot. -/
def Slot.storedRecord : Slot → Option Record
  | .stored r => some r
  | _ => none

/-- The record of an ACTIVE slot. -/
def Slot.activeRecord : Slot → Option Record
  | .active r => some r
  | _ => none

/-- One confirmation is older than another: ride numbers first, then ride times (R108). -/
def Stamp.older (a b : Stamp) : Bool := decide (a.ride < b.ride ∨ (a.ride = b.ride ∧ a.time < b.time))

/-- A record goes before another in the choice of a record to displace: lower severity, then older last
confirmation (R108). -/
def Record.yieldsBefore (a b : Record) : Bool :=
  decide (a.severity < b.severity) || (a.severity == b.severity && a.last.older b.last)

/-- The slot to displace among those that `pick` admits, from index `i` on: the first in the order of
`Record.yieldsBefore`, the lowest-numbered among equals (R108). `best` is the choice so far. -/
def victim (pick : Slot → Option Record) : Nat → Option (Nat × Record) → List Slot → Option (Nat × Record)
  | _, best, [] => best
  | i, best, x :: xs =>
    match pick x, best with
    | some r, some b => victim pick (i + 1) (if r.yieldsBefore b.2 then some (i, r) else best) xs
    | some r, none => victim pick (i + 1) (some (i, r)) xs
    | none, _ => victim pick (i + 1) best xs

/-- An ACTIVE record whose severity is strictly lower than a severity (R108, step 4). -/
def Slot.weakerActive (severity : Nat) (x : Slot) : Option Record :=
  match x.activeRecord with
  | some r => if r.severity < severity then some r else none
  | none => none

/-- The slot for a CONFIRM entry, by the four steps of R108, with the record that it updates (absent when a
new record is made). -/
def confirmSlot (slots : List Slot) (e : ConfirmEntry) : Option (Nat × Option Record) :=
  match slots.findIdx? (Slot.holds e.code) with
  | some i => some (i, slots[i]?.bind Slot.record)
  | none =>
  match slots.findIdx? Slot.isEmpty with
  | some i => some (i, none)
  | none =>
  match victim Slot.storedRecord 0 none slots with
  | some (i, _) => some (i, none)
  | none =>
  match victim (Slot.weakerActive e.severity) 0 none slots with
  | some (i, _) => some (i, none)
  | none => none

/-- The slot for a HEAL entry: the ACTIVE record of its code (R112). -/
def healSlot (slots : List Slot) (code : Nat) : Option (Nat × Record) :=
  match slots.findIdx? (Slot.activeWith code) with
  | some i => (slots[i]?.bind Slot.activeRecord).map fun r => (i, r)
  | none => none

/-- The slot holds a STORED record of a code. -/
def Slot.storedWith (code : Nat) : Slot → Bool
  | .stored r => r.code == code
  | _ => false

/-- The slot for a code of an AGE entry: its STORED record, when it is not an orphan (R113, R115). -/
def ageSlot (t : Tables) (slots : List Slot) (code : Nat) : Option (Nat × Record) :=
  if (t.faultOf code).isSome then
    match slots.findIdx? (Slot.storedWith code) with
    | some i => (slots[i]?.bind Slot.storedRecord).map fun r => (i, r)
    | none => none
  else none

/-- The record that a CONFIRM write leaves: the update of the record of its code, or a new record (R109,
R110). -/
def ConfirmEntry.result (e : ConfirmEntry) (base : Option Record) : Record :=
  match base with
  | some r =>
    { r with
      code := e.code
      system := e.system
      cls := e.cls
      severity := e.severity
      occurrences := saturate Config.count8 r.occurrences 1
      last := e.stamp
      cleanRides := 0
      latestFrame := some e.snapshots }
  | none =>
    { code := e.code
      system := e.system
      cls := e.cls
      severity := e.severity
      occurrences := 1
      first := e.stamp
      last := e.stamp
      cleanRides := 0
      firstFrame := e.snapshots
      latestFrame := none }

/-- The record that a HEAL write leaves (R112). -/
def Record.healed (r : Record) : Record := { r with cleanRides := 0 }

/-- The record that an AGE write leaves (R113). -/
def Record.aged (r : Record) : Record := { r with cleanRides := saturate 250 r.cleanRides 1 }

/-- An AGE write erases the record: its clean rides, after the rise, have reached the aging limit of the
working fault of its code (R114). -/
def Record.erasedBy (r : Record) (t : Tables) : Bool :=
  match t.faultOf r.code with
  | some e => e.agingLimit != 0 && decide (e.agingLimit ≤ r.cleanRides)
  | none => false

/-- The code that the head of the write queue concerns (R104, R113). -/
def WriteEntry.headCode : WriteEntry → Option Nat
  | .confirm e => some e.code
  | .heal c _ => some c
  | .age cs => cs.head?

/-- An AGE entry without its first code; it leaves the queue when its list becomes empty (R113). -/
def dropAgeCode (codes : List Nat) (rest : List WriteEntry) : List WriteEntry :=
  match codes.tail with
  | [] => rest
  | cs => .age cs :: rest

/-- The occurrences that a report frame carries: of the ACTIVE or STORED record of the code, or 0 (R116). -/
def occurrencesOf (slots : List Slot) (code : Nat) : Nat :=
  match (slots.filterMap Slot.record).find? (·.code == code) with
  | some r => r.occurrences
  | none => 0

/-- The stored record count (R116). -/
def recordCount (slots : List Slot) : Nat := (slots.filterMap Slot.record).length

/-- A WRITING slot is freed at start-up (R120). -/
def Slot.freed : Slot → Slot
  | .writing _ => .empty
  | x => x

/-! ## CLEAR (R117, R118, R137) -/

/-- The system that a scope names. -/
def ClearScope.system : ClearScope → Option FaultSystem
  | .engine => some .engine
  | .brake => some .brake
  | .all => none
  | .code _ => none

/-- A working fault is matched by a scope (R97). -/
def ClearScope.matchesFault (scope : ClearScope) (e : FaultEntry) : Bool :=
  match scope with
  | .all => true
  | .engine => e.system == .engine
  | .brake => e.system == .brake
  | .code c => e.code == c

/-- A queued CONFIRM entry of a system and a code (R117). -/
def WriteEntry.confirmsIn (sys : FaultSystem) (code : Nat) : WriteEntry → Bool
  | .confirm e => e.system == sys && e.code == code
  | _ => false

/-- The codes that scope ENGINE or BRAKE selects (R117). -/
def systemSelects (t : Tables) (slots : List Slot) (queue : List WriteEntry) (sys : FaultSystem)
    (code : Nat) : Bool :=
  t.faultList.any (fun e => e.system == sys && e.code == code)
  || (slots.filterMap Slot.record).any (fun r => r.system == sys && r.code == code)
  || queue.any (WriteEntry.confirmsIn sys code)

/-- The set of codes that a scope selects (R117). -/
def ClearScope.selects (scope : ClearScope) (t : Tables) (slots : List Slot) (queue : List WriteEntry)
    (code : Nat) : Bool :=
  match scope with
  | .all => true
  | .engine => systemSelects t slots queue .engine code
  | .brake => systemSelects t slots queue .brake code
  | .code c => code == c

/-- A slot after a CLEAR (R117). -/
def Slot.cleared (sel : Nat → Bool) (x : Slot) : Slot :=
  match x.record with
  | some r => if sel r.code then .empty else x
  | none => x

/-- What a CLEAR leaves of a write queue entry (R118). -/
def WriteEntry.cleared (sel : Nat → Bool) : WriteEntry → Option WriteEntry
  | .confirm e => if sel e.code then none else some (.confirm e)
  | .heal c time => if sel c then none else some (.heal c time)
  | .age cs =>
    match cs.filter (fun c => !sel c) with
    | [] => none
    | left => some (.age left)

/-- A CLEAR removes a report entry (R137). -/
def ClearScope.removesReport (scope : ClearScope) (sel : Nat → Bool) (e : ReportEntry) : Bool :=
  sel e.code || scope.system == some e.system

end Sys2Proof.Machine
end

