-- ==== Sys2Proof/Machine/Signals.lean ====
section
/-! DEFINITION. The Signal Extractor: extraction, scaling, the cache writes of a fresh arrival, the STALE
marking, and the stationary and verified tests (R42 to R57). -/

namespace Sys2Proof.Machine

/-- The unsigned raw number (R43). -/
def SignalEntry.rawUnsigned (e : SignalEntry) (data : List Byte) : Nat :=
  match e.extraction with
  | .bits => byteAt data e.bytePos / 2 ^ e.bitOffset % 2 ^ e.width
  | .byte => byteAt data e.bytePos
  | .wordBE => byteAt data e.bytePos * 256 + byteAt data (e.bytePos + 1)
  | .wordLE => byteAt data (e.bytePos + 1) * 256 + byteAt data e.bytePos

/-- The width of the raw number in bits (R43). -/
def SignalEntry.rawWidth (e : SignalEntry) : Nat :=
  match e.extraction with
  | .bits => e.width
  | .byte => 8
  | .wordBE | .wordLE => 16

/-- The raw number: two's complement when the entry is signed (R44). -/
def SignalEntry.raw (e : SignalEntry) (data : List Byte) : Int :=
  let u := e.rawUnsigned data
  if e.signed ∧ 2 ^ (e.rawWidth - 1) ≤ u then (u : Int) - (2 ^ e.rawWidth : Nat) else u

/-- The least value of a signal (R47). -/
def valueMin : Int := -2147483648

/-- The greatest value of a signal (R47). -/
def valueMax : Int := 2147483647

/-- The scaled value: the product, divided by 2 to the power of the shift and rounded towards minus infinity,
plus the offset, saturated to the signed 32-bit range (R46, R47). -/
def SignalEntry.scale (e : SignalEntry) (r : Int) : Int :=
  max valueMin (min valueMax ((r * e.gain).fdiv (2 ^ e.shift) + e.offset))

/-- The raw number is the not-available raw value (R45). -/
def SignalEntry.unavailable (e : SignalEntry) (r : Int) : Bool := e.naPresent && r == e.naRaw

/-- A cache entry at its initial values (R53). -/
def CacheEntry.initial : CacheEntry where
  value := 0
  status := .neverSeen
  update := none

/-- A cache entry written by a fresh arrival at ride time `t` (R45, R49). -/
def CacheEntry.written (c : CacheEntry) (e : SignalEntry) (data : List Byte) (t : Nat) : CacheEntry :=
  let r := e.raw data
  if e.unavailable r then { c with status := .unavailable, update := some t }
  else { value := e.scale r, status := .valid, update := some t }

/-- A signal is marked STALE by an expiry (R32). -/
def CacheEntry.goesStale (c : CacheEntry) : Bool := c.status == .valid || c.status == .unavailable

/-- A cache entry after the expiry of its frame entry's timer (R32). -/
def CacheEntry.staled (c : CacheEntry) : CacheEntry :=
  if c.goesStale then { c with status := .stale } else c

/-- A signal is drawn from a frame entry (R42). -/
def Tables.drawnFrom (t : Tables) (i : Nat) (k : Nat) : Bool :=
  match entryAt t.settings.signalCount t.signals k with
  | some e => e.frameEntry == i
  | none => false

/-- The cache after a fresh arrival of frame entry `i` at ride time `now` (R42, R49). -/
def writeSignals (t : Tables) (i : Nat) (data : List Byte) (now : Nat) (cache : List CacheEntry) :
    List CacheEntry :=
  mapFrom (fun k c =>
    match entryAt t.settings.signalCount t.signals k with
    | some e => if e.frameEntry = i then c.written e data now else c
    | none => c) 0 cache

/-- The cache after the expiry of frame entry `i`'s timer (R32). -/
def staleSignals (t : Tables) (i : Nat) (cache : List CacheEntry) : List CacheEntry :=
  mapFrom (fun k c => if t.drawnFrom i k then c.staled else c) 0 cache

/-- A signal is turned STALE by the expiry of frame entry `i`'s timer (R50). -/
def Tables.staledBy (t : Tables) (i : Nat) (cache : List CacheEntry) (k : Nat) : Bool :=
  t.drawnFrom i k &&
    match cache[k]? with
    | some c => c.goesStale
    | none => false

/-- A fresh arrival of frame entry `i` sets the verified flag: it writes the speed signal VALID at or above
the verify speed. `cache` is the cache after the arrival's writes (R56). -/
def setsVerified (t : Tables) (i : Nat) (cache : List CacheEntry) : Bool :=
  t.settings.speedPresent && t.drawnFrom i t.settings.speedSignal &&
    match cache[t.settings.speedSignal]? with
    | some c => c.status == .valid && decide ((t.settings.verifySpeed : Int) ≤ c.value)
    | none => false

/-- Stationary (R55). -/
def State.stationary (s : State) : Bool :=
  !s.configured || !s.working.settings.speedPresent ||
    match s.cache[s.working.settings.speedSignal]? with
    | some c => c.status == .valid && c.value == 0
    | none => false

/-- The Signal Cache set up for the working Signal Table (R53). -/
def initialCache (t : Tables) : List CacheEntry := t.signalList.map fun _ => .initial

end Sys2Proof.Machine
end

