-- ==== Sys2Proof/Machine/WatchRules.lean ====
section
/-! DEFINITION. The Watch Evaluator: the tests of the seven kinds, gates, supply suspension, and the pass that
one event makes over the watches (R61 to R76). -/

namespace Sys2Proof.Machine

/-! ## The conditions of the kinds -/

/-- The comparison of a LEVEL watch (R62). -/
def WatchEntry.compare (w : WatchEntry) (v : Int) : Bool :=
  match w.comparison with
  | .above => decide (w.thresholdA < v)
  | .atOrAbove => decide (w.thresholdA ≤ v)
  | .below => decide (v < w.thresholdA)
  | .atOrBelow => decide (v ≤ w.thresholdA)
  | .equal => decide (v = w.thresholdA)
  | .notEqual => decide (v ≠ w.thresholdA)
  | .inside => decide (w.thresholdA ≤ v ∧ v ≤ w.thresholdB)
  | .outside => decide (v < w.thresholdA ∨ w.thresholdB < v)

/-- A cache entry's value and update time when its status is VALID. -/
def validEntry (cache : List CacheEntry) (k : Nat) : Option CacheEntry :=
  match cache[k]? with
  | some c => if c.status = .valid then some c else none
  | none => none

/-- The test of a LEVEL watch: absent when its signal is not VALID (R61, R62). -/
def levelTest (cache : List CacheEntry) (w : WatchEntry) : Option Bool :=
  (validEntry cache w.signalA).map fun c => w.compare c.value

/-- The magnitude of the difference of two ride times (R63). -/
def skewGap (a b : Nat) : Nat := (a - b) + (b - a)

/-- The test of a PAIR watch: absent when a signal is not VALID or the skew gap exceeds the skew (R61, R63). -/
def pairTest (cache : List CacheEntry) (w : WatchEntry) : Option Bool :=
  match validEntry cache w.signalA, validEntry cache w.signalB with
  | some a, some b =>
    if skewGap (a.update.getD 0) (b.update.getD 0) ≤ w.skew then
      some (decide ((w.limit : Int) < |a.value - b.value|))
    else none
  | _, _ => none

/-- The condition of a TIMING watch on a classification (R65). -/
def WatchEntry.timingHolds (w : WatchEntry) (c : ArrivalState) : Bool :=
  match w.timingCondition with
  | .missing => c == .missing
  | .lateOrMissing => c == .late || c == .missing
  | .early => c == .early

/-- A defect is in a mask (R66). -/
def DefectMask.has (m : DefectMask) : Defect → Bool
  | .length => m.length
  | .checksum => m.checksum
  | .repeated => m.repeated
  | .skip => m.skip

/-- The test of an INTEGRITY watch on an arrival; absent when the arrival does not evaluate it (R66). -/
def WatchEntry.integrityTest (w : WatchEntry) (fresh : Bool) (defect : Option Defect) : Option Bool :=
  match defect with
  | some d => if w.defectMask.has d then some true else if fresh then some false else none
  | none => some false

/-- The code slot at bytes `i` and `i + 1` (R67). -/
def codeSlot (data : List Byte) (i : Nat) : Nat := byteAt data i * 256 + byteAt data (i + 1)

/-- The condition of a CODE watch on a fresh arrival's data bytes (R67). -/
def WatchEntry.codeHolds (w : WatchEntry) (data : List Byte) : Bool :=
  codeSlot data 0 == w.code || codeSlot data 2 == w.code || codeSlot data 4 == w.code

/-- The condition of a PORT watch (R68). -/
def WatchEntry.portHolds (w : WatchEntry) (st : PortState) : Bool :=
  match w.portCondition with
  | .busOff => st == .busOff
  | .passiveOrWorse => st == .busOff || st == .errorPassive

/-- The condition of a SUPPLY watch (R69). -/
def WatchEntry.supplyHolds (w : WatchEntry) (b : Band) : Bool :=
  match w.supplyCondition with
  | .low => b == .low
  | .over => b == .over
  | .notNormal => b != .normal

/-- A state-driven watch can be evaluated at any moment from what the module holds (R69, "When each kind is
evaluated"). -/
def WatchEntry.stateDriven (w : WatchEntry) : Bool :=
  match w.kind with
  | .level | .pair | .port | .supply => true
  | .timing | .integrity | .code => false

/-- What the evaluations of one event read: the cache, the port states and the band as they stand (R61). -/
structure WatchView where
  cache : List CacheEntry
  control : PortState
  vehicle : PortState
  band : Band
  now : Nat
  deriving DecidableEq, Repr

/-- What the evaluations of an event read in a state. -/
def State.view (s : State) : WatchView := ⟨s.cache, s.control.state, s.vehicle.state, s.band, s.now⟩

/-- The state of a port as an evaluation reads it. -/
def WatchView.portState (v : WatchView) : Port → PortState
  | .control => v.control
  | .vehicle => v.vehicle

/-- The test of a state-driven watch on what the module holds; absent for reason INPUT (R61). -/
def WatchView.stateTest (v : WatchView) (w : WatchEntry) : Option Bool :=
  match w.kind with
  | .level => levelTest v.cache w
  | .pair => pairTest v.cache w
  | .port => some (w.portHolds (v.portState w.port))
  | .supply => some (w.supplyHolds v.band)
  | .timing | .integrity | .code => none

/-! ## One watch in one event -/

/-- What an event does with a watch that it reaches: it evaluates it with the test of its kind (absent for
reason INPUT), or it makes it UNTESTED with a reason. -/
inductive Reach where
  | evaluate (test : Option Bool)
  | untested (reason : Reason)
  deriving DecidableEq, Repr

/-- A watch's record after an event, and the sample it sends: `some true` is FAIL, `some false` is PASS
(R74). -/
structure Evaluated where
  record : WatchRecord
  sample : Option Bool
  deriving DecidableEq, Repr

/-- An UNTESTED record (R60); it sends no sample (R74). -/
def Evaluated.untested (v : WatchView) (r : Reason) : Evaluated := ⟨⟨.untested, some r, v.now⟩, none⟩

/-- The evaluation of a watch: gate, then supply, then input, then the condition (R61). -/
def evaluateWatch (v : WatchView) (w : WatchEntry) (gateOpen : Bool) (test : Option Bool) : Evaluated :=
  if !gateOpen then .untested v .gated
  else if w.needsNormal && v.band != .normal then .untested v .supply
  else
    match test with
    | none => .untested v .input
    | some true => ⟨⟨.holds, none, v.now⟩, some true⟩
    | some false => ⟨⟨.clear, none, v.now⟩, some false⟩

/-- What an event makes of a watch that it reaches. -/
def reachWatch (v : WatchView) (w : WatchEntry) (gateOpen : Bool) : Reach → Evaluated
  | .evaluate t => evaluateWatch v w gateOpen t
  | .untested r => .untested v r

/-- The gate of a watch is open by its gate watch's latest result; a watch without a gate counts as open
(R70). -/
def gateOpen (records : List WatchRecord) (w : WatchEntry) : Bool :=
  !w.gatePresent ||
    match records[w.gateWatch]? with
    | some r =>
      (match w.gateSense with
        | .whenHolds => r.result == .holds
        | .whenClear => r.result == .clear)
    | none => false

/-- A gate opens: a state-driven watch is evaluated at once, an event-driven one becomes NOT_YET (R72). -/
def openedWatch (v : WatchView) (w : WatchEntry) : Evaluated :=
  if w.stateDriven then evaluateWatch v w true (v.stateTest w) else .untested v .notYet

/-! ## One event over all watches (R71, R72) -/

/-- A record that the event leaves as it is. -/
def Evaluated.kept (r : WatchRecord) : Evaluated := ⟨r, none⟩

/-- The first part of an event: the watches without a gate that it reaches (R71). -/
def ungatedPass (v : WatchView) (table : List WatchEntry) (reach : WatchEntry → Option Reach)
    (records : List WatchRecord) : List Evaluated :=
  mapFrom (fun i r =>
    match table[i]? with
    | some w =>
      if w.gatePresent then .kept r
      else
        match reach w with
        | some a => reachWatch v w true a
        | none => .kept r
    | none => .kept r) 0 records

/-- The second part of an event: each gated watch that it reaches, by its gate as the first part left it; and
each gated watch that it does not reach and whose gate it has opened or closed (R71, R72). `before` are the
records before the event and `mid` those after its first part. -/
def gatedPass (v : WatchView) (table : List WatchEntry) (reach : WatchEntry → Option Reach)
    (before mid : List WatchRecord) (first : List Evaluated) : List Evaluated :=
  mapFrom (fun i x =>
    match table[i]? with
    | some w =>
      if w.gatePresent then
        match reach w with
        | some a => reachWatch v w (gateOpen mid w) a
        | none =>
          match gateOpen before w, gateOpen mid w with
          | true, false => .untested v .gated
          | false, true => openedWatch v w
          | _, _ => x
      else x
    | none => x) 0 first

/-- One event over all watches (R71, R72). -/
def watchPass (v : WatchView) (table : List WatchEntry) (reach : WatchEntry → Option Reach)
    (records : List WatchRecord) : List Evaluated :=
  let first := ungatedPass v table reach records
  gatedPass v table reach records (first.map (·.record)) first

/-- The samples of an event: the linked fault's index, and `true` for FAIL (R74). -/
def linkedSamples (table : List WatchEntry) (xs : List Evaluated) : List (Nat × Bool) :=
  (mapFrom (fun i x =>
    match table[i]?, x.sample with
    | some w, some b => if w.linkPresent then [(w.link, b)] else []
    | _, _ => []) 0 xs).flatten

/-! ## Which watches an event reaches -/

/-- A fresh, damaged or repeated arrival of a frame entry, as it is handed to the Watch Evaluator (R36).
`written` says which signals the arrival wrote. -/
structure ArrivalNotice where
  entry : Nat
  fresh : Bool
  defect : Option Defect
  cls : ArrivalState
  data : List Byte
  deriving DecidableEq, Repr

/-- Watches reached by an arrival: one event for the arrival and the set of signals it wrote (R64 to R67; DEDUCED, log
entry 9). -/
def reachArrival (v : WatchView) (written : Nat → Bool) (a : ArrivalNotice) (w : WatchEntry) :
    Option Reach :=
  match w.kind with
  | .level => if a.fresh && written w.signalA then some (.evaluate (v.stateTest w)) else none
  | .pair =>
    if a.fresh && (written w.signalA || written w.signalB) then some (.evaluate (v.stateTest w)) else none
  | .timing =>
    if a.fresh && w.frameEntry == a.entry then some (.evaluate (some (w.timingHolds a.cls))) else none
  | .integrity =>
    if w.frameEntry == a.entry then
      (w.integrityTest a.fresh a.defect).map fun b => .evaluate (some b)
    else none
  | .code =>
    if a.fresh && w.frameEntry == a.entry then some (.evaluate (some (w.codeHolds a.data))) else none
  | .port | .supply => none

/-- Watches reached by the expiry of a frame entry's timer: one event for the expiry and the set of signals that it
turned STALE, which `staled` names (R64, R65; DEDUCED, log entry 9). -/
def reachExpiry (v : WatchView) (staled : Nat → Bool) (entry : Nat) (w : WatchEntry) : Option Reach :=
  match w.kind with
  | .level => if staled w.signalA then some (.evaluate (v.stateTest w)) else none
  | .pair => if staled w.signalA || staled w.signalB then some (.evaluate (v.stateTest w)) else none
  | .timing =>
    if w.frameEntry == entry then some (.evaluate (some (w.timingHolds .missing))) else none
  | .integrity | .code | .port | .supply => none

/-- Watches reached by an announced state change of a port (R68). -/
def reachPort (v : WatchView) (p : Port) (w : WatchEntry) : Option Reach :=
  if w.kind == .port && w.port == p then some (.evaluate (v.stateTest w)) else none

/-- Watches evaluated at an initialisation: every PORT watch (R75). -/
def reachInit (v : WatchView) (w : WatchEntry) : Option Reach :=
  if w.kind == .port then some (.evaluate (v.stateTest w)) else none

/-- Watches reached by a supply evaluation (R69). -/
def reachSupply (v : WatchView) (w : WatchEntry) : Option Reach :=
  if w.kind == .supply then some (.evaluate (v.stateTest w)) else none

/-- Watches reached by a change of the supply band from `old` to the band of the view (R73). -/
def reachBand (v : WatchView) (old : Band) (w : WatchEntry) : Option Reach :=
  if !w.needsNormal then none
  else if old == .normal && v.band != .normal then some (.untested .supply)
  else if old != .normal && v.band == .normal then
    some (if w.stateDriven then .evaluate (v.stateTest w) else .untested .notYet)
  else none

/-- Every watch record UNTESTED with a reason at a ride time (R75, R76). -/
def uniformWatches (t : Tables) (r : Reason) (time : Nat) : List WatchRecord :=
  t.watchList.map fun _ => ⟨.untested, some r, time⟩

end Sys2Proof.Machine
end

