-- ==== Sys2Proof/WellFormed.lean ====
section
/-! DEFINITION. Which commands are well formed. The only operand that can fail to be a value of its kind is
the frame of FRAME_RECEIVED: R3 fixes the range of its identifier and the number of its data bytes. Every other
operand is a value of its kind at every number it can hold. -/

namespace Sys2Proof

/-- The number of data bytes a length code stands for: a code above 8 is received as 8 (R3). -/
def CanFrame.byteCount (f : CanFrame) : Nat := min f.len 8

/-- The identifier lies in the range of its format: 11 bits or 29 bits (R3). -/
def CanFrame.identOk (f : CanFrame) : Bool :=
  match f.format with
  | .standard => decide (f.ident < 2048)
  | .extended => decide (f.ident < 536870912)

/-- A frame carries as many data bytes as its length says (R3). A REMOTE frame may also carry none at any length code:
R3 calls the length of every frame the number of its data bytes, and CAN sends no data in a remote frame (PRESUMED, log
entry 39). -/
def CanFrame.dataOk (f : CanFrame) : Bool :=
  match f.kind with
  | .data => f.data.length == f.byteCount
  | .remote => f.data.length == f.byteCount || f.data.length == 0

/-- A frame as a port can receive it (R3). -/
def CanFrame.wellFormed (f : CanFrame) : Bool := f.identOk && f.dataOk

/-- A command whose operands are values of their kinds. -/
def Instr.wellFormed : Instr → Bool
  | .frameReceived _ f => f.wellFormed
  | _ => true

end Sys2Proof
end

