-- ==== Sys2Proof/Machine/Effects.lean ====
section
/-! DEFINITION. What the blocks do to the state: lamps, samples and what they hand on, watch events, the two
ports, the offers to their queues, and the Frame Monitor's events. -/

/-- The frame as received: a length code above 8 becomes length 8 (R3). -/
def Sys2Proof.CanFrame.received (f : Sys2Proof.CanFrame) : Sys2Proof.CanFrame := { f with len := f.byteCount }

namespace Sys2Proof.Machine

/-! ## Lamps (R123 to R132) -/

/-- The mode of a system's lamp: the first case of R125 that applies. -/
def State.modeOf (s : State) (sys : FaultSystem) : LampMode :=
  if !s.isRunning then .off
  else if !s.configured then .steady
  else if s.bulbCheck.isSome then .steady
  else lampDemand s.working s.faults sys

/-- A lamp whose mode is set anew: a new mode sets its pattern as the pending pattern, and the mode it already
has changes nothing (R125, R128). -/
def Lamp.setMode (l : Lamp) (t : Settings) (m : LampMode) : Lamp :=
  if l.mode = m then l else { l with mode := m, pendingPattern := some (t.patternOf m) }

/-- A lamp that shows a mode at once (R129, R130). -/
def Lamp.placed (t : Settings) (m : LampMode) : Lamp where
  mode := m
  running := t.patternOf m
  pendingPattern := none

/-- A lamp at a cycle boundary (R128). -/
def Lamp.cycle (l : Lamp) : Lamp :=
  { l with running := l.pendingPattern.getD l.running, pendingPattern := none }

/-- A lamp whose SLOW or FAST mode takes its pattern anew, at a commit that changes a pattern (R128). -/
def Lamp.repattern (l : Lamp) (t : Settings) : Lamp :=
  match l.mode with
  | .slow | .fast => { l with pendingPattern := some (t.patternOf l.mode) }
  | .off | .steady => l

/-- Both lamps' modes set anew from R125. -/
def State.refreshLamps (s : State) : State :=
  { s with
    engineLamp := s.engineLamp.setMode s.working.settings (s.modeOf .engine)
    brakeLamp := s.brakeLamp.setMode s.working.settings (s.modeOf .brake) }

/-- Both lamps show their modes at once (R129, R130). -/
def State.placeLamps (s : State) : State :=
  { s with
    engineLamp := .placed s.working.settings (s.modeOf .engine)
    brakeLamp := .placed s.working.settings (s.modeOf .brake) }

/-- The lamp of a system. -/
def State.lamp (s : State) : FaultSystem → Lamp
  | .engine => s.engineLamp
  | .brake => s.brakeLamp

/-- The line of a lamp, LAMP-E or LAMP-B: `true` when it is switched to ground (R123, R131). -/
def State.lampLine (s : State) (sys : FaultSystem) : Bool :=
  s.isRunning && (s.lamp sys).running.getLsbD s.stepPos

/-! ## Samples and watch events -/

/-- Confirmations and heals are handed on, in an order that the free choices pick (R86, R88, R74; log
entry 11). -/
def State.handOn (s : State) (hs : List Handed) : State :=
  let a := s.free.arrange hs.length hs
  let q := a.1.foldl HandedTo.take ⟨s.writeQueue, s.retained.flags, s.reports, s.reportsDropped⟩
  { s with
    writeQueue := q.writes
    retained := { s.retained with flags := q.flags }
    reports := q.reports
    reportsDropped := q.dropped
    free := a.2 }

/-- What samples read (R82, R85, R87). -/
def State.sampleContext (s : State) : SampleContext :=
  ⟨s.working, s.retained.verified, s.cache, s.stamp⟩

/-- The samples of one event reach their faults; confirmations and heals are handed on; the lamps follow
(R74, R82, R86, R88, R90). -/
def State.applySamples (s : State) (samples : List (Nat × Bool)) : State :=
  let d := takeSamples s.sampleContext samples s.faults s.retained.rideFlags
  let t := { s with faults := d.faults, retained := { s.retained with rideFlags := d.flags } }
  (t.handOn d.handed).refreshLamps

/-- One event over the watches, with the samples it sends (R71, R72, R74). -/
def State.watchEvent (s : State) (reach : WatchEntry → Option Reach) : State :=
  let xs := watchPass s.view s.working.watchList reach s.watches
  State.applySamples { s with watches := xs.map Evaluated.record } (linkedSamples s.working.watchList xs)

/-! ## Ports (R1 to R8) -/

/-- The port takes part in its bus: ERROR_ACTIVE or ERROR_PASSIVE (R1). -/
def PortRecord.live (p : PortRecord) : Bool := p.state == .errorActive || p.state == .errorPassive

/-- A frame offered to the port's queue is taken (R5, R6). -/
def PortRecord.hasRoom (p : PortRecord) : Bool := p.live && decide (p.queue.length < Config.transmitCapacity)

/-- The port with a frame at the tail of its queue (R6). -/
def PortRecord.join (p : PortRecord) (f : TxFrame) : PortRecord := { p with queue := p.queue ++ [f] }

/-- The state that the error counts give an ERROR_ACTIVE or ERROR_PASSIVE port (R3). -/
def errorState (st : PortState) (tx rx : Nat) : PortState :=
  match st with
  | .errorActive => if 128 ≤ tx ∨ 128 ≤ rx then .errorPassive else .errorActive
  | .errorPassive => if tx < 128 ∧ rx < 128 then .errorActive else .errorPassive
  | .off => .off
  | .busOff => .busOff

/-- The port with new error counts and the state they give it (R3, R4). -/
def PortRecord.withErrors (p : PortRecord) (tx rx : Nat) : PortRecord :=
  { p with txErrors := tx, rxErrors := rx, state := errorState p.state tx rx }

/-- A frame has been received correctly (R3). -/
def PortRecord.received (p : PortRecord) : PortRecord := p.withErrors p.txErrors (p.rxErrors - 1)

/-- A bus error has been detected while receiving (R3). -/
def PortRecord.receiveFailed (p : PortRecord) : PortRecord :=
  p.withErrors p.txErrors (saturate Config.count8 p.rxErrors 1)

/-- The head frame has been sent and acknowledged (R4). -/
def PortRecord.sent (p : PortRecord) : PortRecord :=
  PortRecord.withErrors { p with queue := p.queue.tail } (p.txErrors - 1) p.rxErrors

/-- The port enters BUS_OFF (R5). -/
def PortRecord.intoBusOff (p : PortRecord) : PortRecord :=
  { p with
    state := .busOff
    queue := []
    forwardDrop := saturate Config.count8 p.forwardDrop p.queue.length
    recovery := 0 }

/-- A transmission attempt has failed (R4, R5). -/
def PortRecord.sendFailed (p : PortRecord) : PortRecord :=
  if 255 < p.txErrors + 8 then p.intoBusOff else p.withErrors (p.txErrors + 8) p.rxErrors

/-- A recovery sequence has been seen in BUS_OFF (R5). -/
def PortRecord.recovered (p : PortRecord) : PortRecord :=
  if 128 ≤ p.recovery + 1 then { p with state := .errorActive, txErrors := 0, rxErrors := 0, recovery := 0 }
  else { p with recovery := p.recovery + 1 }

/-- A frame lost on its way out of the port (R15). -/
def PortRecord.dropped (p : PortRecord) : PortRecord :=
  { p with forwardDrop := saturate Config.count8 p.forwardDrop 1 }

/-- An unknown frame received on the port (R15). -/
def PortRecord.sawUnknown (p : PortRecord) : PortRecord :=
  { p with unknown := saturate Config.count8 p.unknown 1 }

/-- The port with its counts of R15 at 0. -/
def PortRecord.zeroCounts (p : PortRecord) : PortRecord := { p with forwardDrop := 0, unknown := 0 }

/-- The port joins its bus (R16). -/
def PortRecord.joinBus (p : PortRecord) : PortRecord := { p with state := .errorActive }

/-- The port becomes OFF at the change to STANDBY: its frames leave unsent and are not counted (R17). -/
def PortRecord.toOff (p : PortRecord) : PortRecord :=
  { p with state := .off, txErrors := 0, rxErrors := 0, recovery := 0, queue := [] }

/-- A port takes a new record; a change of its state is announced to the PORT watches while RUNNING (R1,
R68, R76). -/
def State.changePort (s : State) (p : Port) (r : PortRecord) : State :=
  let t := s.setPort p r
  if (s.port p).state ≠ r.state ∧ t.isRunning then t.watchEvent (reachPort t.view p) else t

/-! ## Departures and the Service Responder's offers (R8, R150, R162) -/

/-- The responder has a frame or a part to offer at a departure (R8, R150). -/
def Responder.wantsDeparture (r : Responder) : Bool := r.waiting.isSome || r.state == .sending

/-- The OK frame of an accepted RESTART is waiting. -/
def Responder.okWaiting (r : Responder) : Bool :=
  match r.waiting with
  | some f => f.restartOk
  | none => false

/-- The responder after a frame has left the vehicle queue by transmission; `empty` says that the queue is
then empty (R8, R150, R162). -/
def Responder.afterSent (r : Responder) (empty : Bool) : Responder :=
  { r with
    departed := r.departed || r.wantsDeparture
    restartDue := r.restartDue || (r.restartPending && empty && !r.okWaiting) }

/-- The responder after the vehicle queue has been emptied at entry to BUS_OFF; `lostOk` says that the OK
frame of a RESTART stood in the queue, and the restart is then abandoned (R8, R162). -/
def Responder.afterEmptied (r : Responder) (lostOk : Bool) : Responder :=
  { r with
    departed := r.departed || r.wantsDeparture
    restartPending := r.restartPending && !lostOk
    restartDue := r.restartDue && !lostOk }

/-- The responder after one of its frames has been discarded in BUS_OFF: a response in progress ends, and a
restart whose OK frame it was is abandoned (R150, R162). -/
def Responder.afterDiscard (r : Responder) (wasOk : Bool) : Responder :=
  { r with
    state := .idle
    copy := none
    nextPart := 0
    departed := false
    partWaits := false
    restartPending := r.restartPending && !wasOk
    restartDue := r.restartDue && !wasOk }

/-- The responder when the last part of a response has joined the queue (R151). -/
def Responder.finished (r : Responder) : Responder :=
  { r with state := .idle, copy := none, nextPart := 0, partWaits := false }

/-- The responder when the part `nextPart` of a response of `count` parts has joined the queue: the part after it
comes next, or the response is over (R149 to R151). -/
def Responder.partJoined (r : Responder) (count : Nat) : Responder :=
  if r.nextPart + 1 < count then { r with nextPart := r.nextPart + 1, partWaits := false } else r.finished

/-- A responder frame is offered to the vehicle queue: it joins, waits outside a full queue, or is discarded
in BUS_OFF (R7, R8, R150). -/
def State.offerResponse (s : State) (f : TxFrame) : State :=
  if !s.vehicle.live then s.withResponder (s.responder.afterDiscard f.restartOk)
  else if s.vehicle.queue.length < Config.transmitCapacity then s.setPort .vehicle (s.vehicle.join f)
  else s.withResponder { s.responder with waiting := some f, partWaits := false }

/-- A frame on the service response identifier of the working Settings (R148). -/
def State.responseFrame (s : State) (data : List Byte) (restartOk : Bool) : TxFrame :=
  ⟨ownFrame s.working.settings.responseId data, restartOk⟩

/-- The part `nextPart` of the frozen copy has joined the queue (R151). -/
def State.partJoined (s : State) : State :=
  match s.responder.copy with
  | some c => s.withResponder (s.responder.partJoined c.partCount)
  | none => s

/-- The frame of the part `nextPart` is offered: the index moves on when it joins, and stays while it waits (R149
to R151). -/
def State.offerPartFrame (s : State) (f : TxFrame) : State :=
  let u := s.offerResponse f
  if s.vehicle.hasRoom then u.partJoined
  else if s.vehicle.live then u.withResponder { u.responder with partWaits := true }
  else u

/-! ## The Frame Path (R9 to R14) -/

/-- A frame is offered to a port's queue as an exact copy, or dropped and counted (R14). -/
def State.forward (s : State) (out : Port) (f : CanFrame) : State :=
  if (s.port out).hasRoom then s.setPort out ((s.port out).join ⟨f, false⟩)
  else s.setPort out (s.port out).dropped

/-- The default route of the direction of a frame received on a port (R13). -/
def Settings.defaultRoute (t : Settings) : Port → DefaultRoute
  | .control => t.routeToVehicle
  | .vehicle => t.routeToControl

/-- An unknown frame: counted, and sent on its direction's default route (R9, R10, R13). -/
def State.unknownFrame (s : State) (p : Port) (f : CanFrame) : State :=
  let t := s.setPort p (s.port p).sawUnknown
  match s.working.settings.defaultRoute p with
  | .forward => t.forward p.opposite f
  | .drop => t

/-- The number of the working Frame Table entry of a port and an identifier (R10). -/
def Tables.lookup (t : Tables) (p : Port) (ident : Nat) : Option Nat :=
  t.frameList.findIdx? fun e => e.port == p && e.ident == ident

/-- A route forwards an arrival of a verdict; the verdict is absent in AFTER_RUN (R12). -/
def Route.forwards (r : Route) (v : Option Verdict) : Bool :=
  match r with
  | .forward => true
  | .forwardIntact =>
    match v with
    | some .fresh => true
    | some .damaged => false
    | some .repeated => false
    | none => true
  | .drop => false

/-! ## The Frame Monitor's events (R22 to R36) -/

/-- The runtime record of an entry. -/
def State.recordOf (s : State) (i : Nat) : FrameRecord := s.monitor.getD i (.initial none)

/-- An arrival of entry `i` with its judgement: the record, the signals, the verified flag, then the watches
(R26, R36, R49, R50, R56). -/
def State.arrival (s : State) (i : Nat) (e : FrameEntry) (j : Judgement) (data : List Byte) : State :=
  let r := (s.recordOf i).afterArrival e s.degraded s.now j data
  let fresh := j.verdict == .fresh
  let cache := if fresh then writeSignals s.working i data s.now s.cache else s.cache
  let verified := s.retained.verified || (fresh && setsVerified s.working i cache)
  let t := { s with
    monitor := s.monitor.set i r
    cache := cache
    retained := { s.retained with verified := verified } }
  t.watchEvent (reachArrival t.view (s.working.drawnFrom i) ⟨i, fresh, j.defect, r.state, data⟩)

/-- A known frame of entry `i` (R12): monitored while RUNNING, then forwarded or dropped by its route. -/
def State.knownFrame (s : State) (p : Port) (i : Nat) (e : FrameEntry) (f : CanFrame) : State :=
  if s.isRunning then
    let j := judge e (s.recordOf i) f.data
    let t := s.arrival i e j f.data
    if e.route.forwards (some j.verdict) then t.forward p.opposite f else t
  else if e.route.forwards none then s.forward p.opposite f
  else s

/-- The timer of an entry is RUNNING and has reached its expiry time (R31). -/
def State.expiryDue (s : State) (i : Nat) : Bool :=
  s.isRunning &&
    match s.monitor[i]? with
    | some r =>
      match r.timer with
      | some x => decide (x ≤ s.now)
      | none => false
    | none => false

/-- The expiry of entry `i`'s timer (R31, R32, R50). -/
def State.expire (s : State) (i : Nat) : State :=
  let t := { s with
    monitor := s.monitor.set i (s.recordOf i).afterExpiry
    cache := staleSignals s.working i s.cache }
  t.watchEvent (reachExpiry t.view (s.working.staledBy i s.cache) i)

end Sys2Proof.Machine
end

