-- ==== Sys2Proof/Machine/Rides.lean ====
section
/-! DEFINITION. Resets, starts, rides, after-run and standby (R16, R17, R163 to R176). -/

namespace Sys2Proof.Machine

/-! ## Supply bands (R163) -/

/-- The band after a sample of `v` tenths of a volt; absent for CUT (R163). -/
def nextBand (old : Band) (v : Nat) : Option Band :=
  if v < 60 then none
  else if v < 90 then some .low
  else if v < 93 then some (match old with | .low => .low | .normal => .normal | .over => .normal)
  else if v ≤ 157 then some .normal
  else if v ≤ 160 then some (match old with | .low => .normal | .normal => .normal | .over => .over)
  else some .over

/-! ## Resets (R165) -/

/-- A store write in progress leaves the store INVALID (R158, R165). -/
def Store.afterReset (x : Store) : Store :=
  match x.state with
  | .writing => { x with state := .invalid }
  | .valid | .invalid => x

/-- Entry to STARTING: the ports are OFF and the runtime state of every block is gone (R16, R21, R53, R76,
R98, R131, R147, R149). On key-on from STANDBY R127 keeps the step position until the next ride start sets it, and R131
has it at 0 during STARTING: the model sets it to 0 here (DEDUCED, log entry 41). -/
def State.intoStarting (s : State) (stage : StartStage) : State :=
  { s with
    power := .starting
    stage := stage
    sampleCount := 0
    control := .fresh s.control.bitRate
    vehicle := .fresh s.vehicle.bitRate
    clashes := 0
    monitor := []
    cache := []
    watches := []
    faults := []
    writeQueue := []
    write := none
    engineLamp := .dark
    brakeLamp := .dark
    stepPos := 0
    boundaryDue := false
    bulbCheck := none
    reports := []
    reportsDropped := 0
    pacer := .stopped
    statusPeriod := none
    responder := .initial
    limitPassed := false }

/-- A reset: all volatile state is lost and the module comes to STARTING (R165). The working tables, and whether the
module is configured, stay in force until the start that follows reads the store (R158, R161); the staging edits
are lost, and staging is then a copy of the working tables (DESIGN CHOICE, log entry 30). -/
def State.resetModule (s : State) (kind : ResetKind) : State :=
  { s.intoStarting .held with
    resetKind := kind
    band := .low
    keySettled := none
    timebase := .crystal
    degraded := false
    store := s.store.afterReset
    storeFailed := false
    staging := s.working
    sampleElapsed := 0
    keyElapsed := 0
    lampElapsed := 0
    statusElapsed := 0
    afterRunElapsed := 0 }

/-- The battery has fallen below 3.0 V: retained memory loses its contents and the retention mark (R166; log
entry 7). -/
def State.loseRetained (s : State) : State :=
  { s with
    retained := { Config.lostRetained s.free.count with mark := false }
    free := { s.free with count := s.free.count + 1 } }

/-! ## Ride starts and ride end (R170 to R173) -/

/-- The cycle boundaries of a bulb check: its duration rounded up to whole cycles of 2000 ms; absent for
duration 0 (R129). -/
def bulbCycles (duration : Nat) : Option Nat := if duration = 0 then none else some (ceilDiv duration 2000)

/-- The blocks' part of a ride start, new or resumed, with retained memory already set (R15, R21, R53, R75,
R94, R95, R130, R136, R164). At key-on in AFTER_RUN R17 says that the counts stand, and R15 and R170 set the five
counts of R15 to 0 at each ride start: the model zeroes those five and keeps the ports' error counts (DEDUCED, log
entry 35). -/
def State.startRide (s : State) (bulb : Option Nat) : State :=
  let t := { s with
    power := .running
    stage := .done
    control := s.control.zeroCounts
    vehicle := s.vehicle.zeroCounts
    clashes := 0
    monitor := initialMonitor s.working s.degraded s.now
    cache := initialCache s.working
    watches := uniformWatches s.working .notYet s.now
    faults := deriveFaults s.working s.retained.slots s.writeQueue
    reportsDropped := 0
    sampleCount := 0
    stepPos := 0
    boundaryDue := false
    bulbCheck := bulb
    limitPassed := false
    lampElapsed := 0 }
  let u := t.placeLamps
  u.watchEvent (reachInit u.view)

/-- Retained memory at a new ride start (R91, R170). -/
def Retained.newRide (r : Retained) (faultCount : Nat) : Retained :=
  { r with
    rideNumber := saturate 65535 r.rideNumber 1
    rideClock := 0
    rideOpen := true
    verified := false
    restarts := 0
    rideFlags := clearFlagsBelow faultCount r.rideFlags }

/-- A new ride start (R170). -/
def State.newRide (s : State) : State :=
  (s.withRetained (s.retained.newRide s.working.settings.faultCount)).startRide
    (bulbCycles s.working.settings.bulbCheck)

/-- Retained memory at a resumed ride start (R171). -/
def Retained.resumed (r : Retained) : Retained := { r with restarts := saturate Config.count8 r.restarts 1 }

/-- A resumed ride start (R171). -/
def State.resumeRide (s : State) : State := (s.withRetained s.retained.resumed).startRide none

/-- The write queue and the memory flags after ride end has handed on its AGE entry (R92). -/
def State.withAgeEntry (s : State) : List WriteEntry × MemoryFlags :=
  match agingList s.working s.retained.rideFlags with
  | [] => (s.writeQueue, s.retained.flags)
  | codes => joinWrites (.age codes) s.writeQueue s.retained.flags

/-- Ride end (R173). -/
def State.endRide (s : State) : State :=
  { s with
    power := .afterRun
    stage := .done
    retained := { s.retained with rideOpen := false, flags := s.withAgeEntry.2 }
    writeQueue := s.withAgeEntry.1
    monitor := s.monitor.map fun r => { r with timer := none }
    watches := uniformWatches s.working .notRunning s.now
    engineLamp := .dark
    brakeLamp := .dark
    boundaryDue := false
    bulbCheck := none
    limitPassed := false
    afterRunElapsed := 0 }

/-! ## Standby (R17, R147, R149, R174, R175) -/

/-- The change from AFTER_RUN to STANDBY. -/
def State.intoStandby (s : State) : State :=
  { s with
    power := .standby
    control := s.control.toOff
    vehicle := s.vehicle.toOff
    writeQueue := []
    reports := []
    reportsDropped := 0
    pacer := .stopped
    statusPeriod := none
    responder := .initial
    limitPassed := false }

/-- Past the limit of AFTER_RUN the module enters STANDBY as soon as no slot write and no store write is in
progress (R121, R174). -/
def State.standbyPastLimit (s : State) : State :=
  if s.inAfterRun && s.limitPassed && s.write.isNone && s.store.state != .writing then s.intoStandby else s

/-! ## Starting (R166 to R168) -/

/-- Retained memory after a cold start (R91, R119, R166). -/
def Retained.coldStart (r : Retained) : Retained :=
  { r with
    mark := true
    slots := List.replicate Config.slotCount .empty
    flags := ⟨true, false, false, false⟩
    rideFlags := List.replicate Config.flagCount .clear
    rideNumber := 0
    rideOpen := false
    rideClock := 0
    verified := false
    restarts := 0 }

/-- Retained memory after the recovery of WRITING slots (R120). -/
def Retained.recovered (r : Retained) : Retained :=
  { r with
    slots := r.slots.map Slot.freed
    flags := { r.flags with recordLost := r.flags.recordLost || r.slots.any Slot.isWriting } }

/-- Both ports become ERROR_ACTIVE and join their buses; the pacer and the status timer start (R16, R138,
R140, R144). -/
def State.joinBuses (s : State) : State :=
  { s with
    control := s.control.joinBus
    vehicle := s.vehicle.joinBus
    pacer :=
      { running := true
        nextSlot := 0
        elapsed := 0
        rate := s.working.settings.reportsPerWindow
        pendingRate := none }
    statusPeriod := some s.working.settings.statusPeriod
    statusElapsed := 0 }

/-- The Timebase at the end of a STARTING that follows a reset: CRYSTAL when the crystal runs (R176). Whether a crystal
that had stopped runs again, and is then used, is a free choice (DESIGN CHOICE, log entry 18): so too for one that
stopped after the reset, where R176 also says that it is not used until the next reset. -/
def State.settleTimebase (s : State) : State :=
  if s.crystalRuns then { s with timebase := .crystal, degraded := false }
  else
    let runs := s.free.draw.1 % 2 == 0
    { s with
      crystalRuns := runs
      timebase := if runs then .crystal else .internal
      degraded := !runs
      free := s.free.draw.2 }

/-- The ride decision, with the settled level of the KEY line (R168). -/
def State.rideDecision (s : State) (on : Bool) : State :=
  let t := if s.stage = .keyOn then s else s.settleTimebase
  match on, t.retained.rideOpen with
  | true, true => t.joinBuses.resumeRide
  | true, false => t.joinBuses.newRide
  | false, true => t.joinBuses.endRide
  | false, false => { t with power := .standby, stage := .done }

/-- Start-up may run: at once after key-on in STANDBY and after a SERVICE_RESTART, at 6.3 V after another
reset (R165, R167). -/
def State.canStart (s : State) : Bool :=
  s.power == .starting &&
    match s.stage with
    | .keyOn => true
    | .held => s.resetKind == .serviceRestart || decide (63 ≤ s.battery)
    | .waitKey | .done => false

/-- Retained memory after steps 1 and 2 of STARTING (R120, R166, R167). -/
def State.startRetained (s : State) : Retained :=
  let r := if s.retained.mark then s.retained else s.retained.coldStart
  let r := if s.stage = .held then { r with lastReset := s.resetKind } else r
  r.recovered

/-- The tables that step 3 of STARTING finds (R161). -/
def Store.startTables (x : Store) : Tables := if x.state = .valid then x.tables else .default

/-- The ride flags after step 4 of STARTING (R91, R98). -/
def startFlags (configured : Bool) (faultCount : Nat) (flags : List RideFlags) : List RideFlags :=
  if configured then clearFlagsFrom faultCount flags else clearFlagsFrom 0 flags

/-- Steps 1 to 4 of STARTING (R167). After a reset the band is set from the battery's level as from LOW
(R163; log entry 17). -/
def State.setUp (s : State) : State :=
  let tables := s.store.startTables
  let ok := s.store.state == .valid
  let r := s.startRetained
  { s with
    retained := { r with rideFlags := startFlags ok tables.settings.faultCount r.rideFlags }
    band := if s.stage = .held then (nextBand .low s.battery).getD .low else s.band
    working := tables
    staging := tables
    configured := ok
    storeFailed := false
    control := .fresh tables.settings.controlRate
    vehicle := .fresh tables.settings.vehicleRate
    monitor := stoppedMonitor tables
    cache := initialCache tables
    watches := uniformWatches tables .notRunning r.rideClock
    faults := deriveFaults tables r.slots []
    writeQueue := []
    write := none }

/-- Step 5 of STARTING: the ride decision, when the KEY line has settled (R167, R169). -/
def State.finishStart (s : State) : State :=
  match s.keySettled with
  | some on => s.rideDecision on
  | none => { s with stage := .waitKey }

end Sys2Proof.Machine
end

