-- ==== Sys2Proof/Machine/MemoryCommands.lean ====
section
/-! DEFINITION. The meanings of the fault memory's commands: the begin of a slot write and its three
completions (06_fault_memory). A command whose conditions do not hold in a state leaves the state as it is (log
entry 2). -/

namespace Sys2Proof.Machine

/-! ## WRITE_BEGIN (R106 to R108, R112, R113) -/

/-- The write of the head begins: RUNNING or AFTER_RUN, no write in progress, the band not LOW (R106, R121). -/
def State.canBeginWrite (s : State) : Bool :=
  s.isAwake && s.write.isNone && s.band != .low && !s.writeQueue.isEmpty

/-- The memory slots replaced. -/
def State.withSlots (s : State) (slots : List Slot) : State :=
  { s with retained := { s.retained with slots := slots } }

/-- A slot becomes WRITING for a code; `base` is the record that the write continues. The write's duration is
free, up to 5 ms (R106; log entry 19). -/
def State.beginSlotWrite (s : State) (slot : Nat) (code : Nat) (base : Option Record) : State :=
  { s with
    retained := { s.retained with slots := s.retained.slots.set slot (.writing code) }
    write := some ⟨slot, base, 0, s.free.draw.1 % (Config.slotWriteMs + 1)⟩
    free := s.free.draw.2 }

/-- The head leaves the queue without a write. -/
def State.withQueue (s : State) (q : List WriteEntry) : State := { s with writeQueue := q }

/-- A confirmation finds no slot: it leaves the queue and MEMORY_FULL is set (R111). -/
def State.unrecorded (s : State) (rest : List WriteEntry) : State :=
  { s with
    writeQueue := rest
    retained := { s.retained with flags := { s.retained.flags with memoryFull := true } } }

/-- The begin event for the head of the queue (R108, R112, R113). -/
def State.beginHead (s : State) (head : WriteEntry) (rest : List WriteEntry) : State :=
  match head with
  | .confirm e =>
    match confirmSlot s.retained.slots e with
    | some (i, base) => s.beginSlotWrite i e.code base
    | none => s.unrecorded rest
  | .heal c _ =>
    match healSlot s.retained.slots c with
    | some (i, r) => s.beginSlotWrite i c (some r)
    | none => s.withQueue rest
  | .age [] => s.withQueue rest
  | .age (c :: cs) =>
    match ageSlot s.working s.retained.slots c with
    | some (i, r) => s.beginSlotWrite i c (some r)
    | none => s.withQueue (dropAgeCode (c :: cs) rest)

/-- WRITE_BEGIN (R106, R108). -/
def execWriteBegin (s : State) : Host.Outcome State Fault Refusal :=
  .next
    (if s.canBeginWrite then
      match s.writeQueue with
      | head :: rest => s.beginHead head rest
      | [] => s
    else s)

/-! ## Completions (R109, R110, R112 to R114) -/

/-- A slot takes its contents, the queue what is left of it, and the write ends (R106). -/
def State.finishWrite (s : State) (slot : Nat) (x : Slot) (q : List WriteEntry) : State :=
  { s.withSlots (s.retained.slots.set slot x) with
    write := none
    writeQueue := q }

/-- The state after a CONFIRM write completes (R109, R110). -/
def State.completeConfirm (s : State) : State :=
  match s.write, s.writeQueue with
  | some w, .confirm e :: rest => (s.finishWrite w.slot (.active (e.result w.base)) rest).standbyPastLimit
  | _, _ => s

/-- CONFIRM_WRITE_COMPLETE (R109, R110). -/
def execConfirmWriteComplete (s : State) : Host.Outcome State Fault Refusal := .next s.completeConfirm

/-- The state after a HEAL write completes (R112). -/
def State.completeHeal (s : State) : State :=
  match s.write, s.writeQueue with
  | some ⟨i, some r, _, _⟩, .heal _ _ :: rest => (s.finishWrite i (.stored r.healed) rest).standbyPastLimit
  | _, _ => s

/-- HEAL_WRITE_COMPLETE (R112). -/
def execHealWriteComplete (s : State) : Host.Outcome State Fault Refusal := .next s.completeHeal

/-- An event is taken by the Report Unit (R133, R135, R136). -/
def State.report (s : State) (e : ReportEntry) : State :=
  let r := takeReport e s.reports s.reportsDropped
  { s with reports := r.1, reportsDropped := r.2 }

/-- The state after the AGE write of a record completes: a clean ride more, or an erasure with its AGED event
(R113, R114). -/
def State.completeAgeWrite (s : State) (slot : Nat) (r : Record) (q : List WriteEntry) : State :=
  let a := r.aged
  if a.erasedBy s.working then
    (s.finishWrite slot .empty q).report (freshReport a.code a.system a.severity .aged s.now)
  else s.finishWrite slot (.stored a) q

/-- The state after an AGE write completes (R113, R114). -/
def State.completeAge (s : State) : State :=
  match s.write, s.writeQueue with
  | some ⟨i, some r, _, _⟩, .age codes :: rest =>
    (s.completeAgeWrite i r (dropAgeCode codes rest)).standbyPastLimit
  | _, _ => s

/-- AGE_WRITE_COMPLETE (R113, R114). -/
def execAgeWriteComplete (s : State) : Host.Outcome State Fault Refusal := .next s.completeAge

end Sys2Proof.Machine
end

