-- ==== Sys2Proof/Machine/PacedCommands.lean ====
section
/-! DEFINITION. The meanings of the commands paced by the Timebase: the lamp step and the cycle boundary, the
pacer's window and slot, and the status broadcast (07_warning_lamps, 08_fault_reports_and_status_broadcast). A
command whose conditions do not hold in a state leaves the state as it is (log entry 2). -/

namespace Sys2Proof.Machine

/-! ## Lamps (R127 to R129) -/

/-- The step position advances; its return to 0 makes the cycle boundary due (R127). -/
def State.advanceStep (s : State) : State :=
  if s.stepPos + 1 < 16 then { s with stepPos := s.stepPos + 1, lampElapsed := 0 }
  else { s with stepPos := 0, boundaryDue := true, lampElapsed := 0 }

/-- LAMP_STEP (R127). -/
def execLampStep (s : State) : Host.Outcome State Fault Refusal :=
  .next (if s.isRunning then s.advanceStep else s)

/-- Both lamps take up their pending patterns (R128). -/
def State.cycleLamps (s : State) : State :=
  { s with engineLamp := s.engineLamp.cycle, brakeLamp := s.brakeLamp.cycle }

/-- The cycle boundary: the bulb check comes nearer its end or ends, and pending patterns are taken up (R128,
R129). -/
def State.crossBoundary (s : State) : State :=
  match s.bulbCheck with
  | none => State.cycleLamps { s with boundaryDue := false }
  | some n =>
    if n ≤ 1 then State.placeLamps { s with boundaryDue := false, bulbCheck := none }
    else State.cycleLamps { s with boundaryDue := false, bulbCheck := some (n - 1) }

/-- CYCLE_BOUNDARY (R128, R129). -/
def execCycleBoundary (s : State) : Host.Outcome State Fault Refusal :=
  .next (if s.isRunning && s.boundaryDue then s.crossBoundary else s)

/-! ## The report pacer (R138 to R142) -/

/-- A window begins: the pending rate becomes the rate in use (R140). -/
def Pacer.beginWindow (p : Pacer) (k : Nat) : Pacer :=
  { p with nextSlot := 0, elapsed := 0, rate := p.pendingRate.getD k, pendingRate := none }

/-- WINDOW_BEGIN (R140; log entry 29). -/
def execWindowBegin (s : State) : Host.Outcome State Fault Refusal :=
  .next
    (if s.pacer.running then
      { s with pacer := s.pacer.beginWindow s.working.settings.reportsPerWindow }
    else s)

/-- The report frame made from an entry (R142, R177). -/
def State.reportFrame (s : State) (e : ReportEntry) : CanFrame :=
  ownFrame s.working.settings.reportId (reportBytes e (occurrencesOf s.retained.slots e.code))

/-- An open slot: the head entry's report frame is offered to the vehicle queue (R141, R142). -/
def State.offerReport (s : State) : State :=
  match s.reports with
  | [] => s
  | e :: rest =>
    if s.vehicle.hasRoom then
      { s with vehicle := s.vehicle.join ⟨s.reportFrame e, false⟩, reports := rest }
    else s

/-- The pacer after the slot that begins next has begun. -/
def Pacer.beginSlot (p : Pacer) : Pacer :=
  { p with nextSlot := p.nextSlot + 1, elapsed := max p.elapsed (Config.slotMs * p.nextSlot) }

/-- A slot begins: an open one gives the report queue one chance to send (R139, R141). -/
def State.beginSlot (s : State) : State :=
  let t := { s with pacer := s.pacer.beginSlot }
  if slotOpen s.pacer.rate s.pacer.nextSlot then t.offerReport else t

/-- PACER_SLOT (R141). -/
def execPacerSlot (s : State) : Host.Outcome State Fault Refusal :=
  .next (if s.pacer.running ∧ s.pacer.nextSlot < 16 then s.beginSlot else s)

/-! ## The status broadcast (R144, R145) -/

/-- The status frame formed now (R145, R177). -/
def State.statusFrame (s : State) : CanFrame :=
  ownFrame s.working.settings.statusId
    (statusBytes s.engineLamp.mode s.brakeLamp.mode s.band
      (activeCount s.working s.faults .engine) (activeCount s.working s.faults .brake)
      (recordCount s.retained.slots) s.retained.flags (!s.configured) s.storeFailed s.degraded
      s.reportsDropped s.retained.restarts)

/-- The status frame is offered or skipped (R144). -/
def State.offerStatus (s : State) : State :=
  if s.vehicle.hasRoom then { s with vehicle := s.vehicle.join ⟨s.statusFrame, false⟩ } else s

/-- The status timer expires: a frame is offered and the timer restarts (R144). -/
def State.expireStatus (s : State) : State :=
  { s.offerStatus with statusPeriod := some s.working.settings.statusPeriod, statusElapsed := 0 }

/-- STATUS_EXPIRY (R144). -/
def execStatusExpiry (s : State) : Host.Outcome State Fault Refusal :=
  .next (if s.statusPeriod.isSome then s.expireStatus else s)

end Sys2Proof.Machine
end

