-- ==== Sys2Proof/Machine/TableFields.lean ====
section
/-! DEFINITION. The fields of the staging tables as READ_TABLE and WRITE_TABLE number them (R179), with the
range of each (R11, R40, R59, R78, R180). Every field is one signed 32-bit number. -/

namespace Sys2Proof.Machine

/-- What writing a field comes to: the entry has no field of that number, the value is not a value of the
field, or the entry with the field written (R156). -/
inductive FieldWrite (α : Type) where
  | noField
  | badValue
  | ok (a : α)
  deriving DecidableEq, Repr

/-- The number a yes-or-no or presence field carries (R179). -/
def flagNumber (b : Bool) : Int := if b then 1 else 0

/-- A natural-number field with its range. -/
def writeNat {α : Type} (lo hi : Nat) (v : Int) (set : Nat → α) : FieldWrite α :=
  if (lo : Int) ≤ v ∧ v ≤ (hi : Int) then .ok (set v.toNat) else .badValue

/-- A signed field with its range. -/
def writeInt {α : Type} (lo hi : Int) (v : Int) (set : Int → α) : FieldWrite α :=
  if lo ≤ v ∧ v ≤ hi then .ok (set v) else .badValue

/-- A yes-or-no or presence field (R179). -/
def writeFlag {α : Type} (v : Int) (set : Bool → α) : FieldWrite α :=
  if v = 0 then .ok (set false) else if v = 1 then .ok (set true) else .badValue

/-- A field that carries the code of a named value (R179). -/
def writeCode {α β : Type} (ofCode : Int → Option β) (v : Int) (set : β → α) : FieldWrite α :=
  match ofCode v with
  | some b => .ok (set b)
  | none => .badValue

/-- A bit rate field carries 250 or 500 (R179). -/
def writeRate {α : Type} (v : Int) (set : Nat → α) : FieldWrite α :=
  if v = 250 ∨ v = 500 then .ok (set v.toNat) else .badValue

/-- The status period: 100 to 2000 ms in steps of 10 (R156, R180). -/
def writePeriod {α : Type} (v : Int) (set : Nat → α) : FieldWrite α :=
  if 100 ≤ v ∧ v ≤ 2000 ∧ v % 10 = 0 then .ok (set v.toNat) else .badValue

/-- A pattern field: a number from 0 to 65535 whose bit s is step s (R179). -/
def writePattern {α : Type} (v : Int) (set : Pattern → α) : FieldWrite α :=
  if 0 ≤ v ∧ v ≤ 65535 then .ok (set (BitVec.ofNat 16 v.toNat)) else .badValue

/-! ## Codes of named values in table fields (R181) -/

/-- The code of each Port value (R181). -/
def portCode : Port → Nat
  | .control => 0
  | .vehicle => 1

/-- The Port value that a code names (R181). -/
def portOfCode : Int → Option Port
  | 0 => some .control
  | 1 => some .vehicle
  | _ => none

/-- The code of each Route value (R181). -/
def routeCode : Route → Nat
  | .forward => 0
  | .forwardIntact => 1
  | .drop => 2

/-- The Route value that a code names (R181). -/
def routeOfCode : Int → Option Route
  | 0 => some .forward
  | 1 => some .forwardIntact
  | 2 => some .drop
  | _ => none

/-- The code of each Nibble value (R181). -/
def nibbleCode : Nibble → Nat
  | .low => 0
  | .high => 1

/-- The Nibble value that a code names (R181). -/
def nibbleOfCode : Int → Option Nibble
  | 0 => some .low
  | 1 => some .high
  | _ => none

/-- The code of each FrameTiming value (R181). -/
def frameTimingCode : FrameTiming → Nat
  | .event => 0
  | .periodic => 1

/-- The FrameTiming value that a code names (R181). -/
def frameTimingOfCode : Int → Option FrameTiming
  | 0 => some .event
  | 1 => some .periodic
  | _ => none

/-- The code of each Extraction value (R181). -/
def extractionCode : Extraction → Nat
  | .bits => 0
  | .byte => 1
  | .wordBE => 2
  | .wordLE => 3

/-- The Extraction value that a code names (R181). -/
def extractionOfCode : Int → Option Extraction
  | 0 => some .bits
  | 1 => some .byte
  | 2 => some .wordBE
  | 3 => some .wordLE
  | _ => none

/-- The code of each WatchKind value (R181). -/
def watchKindCode : WatchKind → Nat
  | .level => 0
  | .pair => 1
  | .timing => 2
  | .integrity => 3
  | .code => 4
  | .port => 5
  | .supply => 6

/-- The WatchKind value that a code names (R181). -/
def watchKindOfCode : Int → Option WatchKind
  | 0 => some .level
  | 1 => some .pair
  | 2 => some .timing
  | 3 => some .integrity
  | 4 => some .code
  | 5 => some .port
  | 6 => some .supply
  | _ => none

/-- The code of each GateSense value (R181). -/
def gateSenseCode : GateSense → Nat
  | .whenHolds => 0
  | .whenClear => 1

/-- The GateSense value that a code names (R181). -/
def gateSenseOfCode : Int → Option GateSense
  | 0 => some .whenHolds
  | 1 => some .whenClear
  | _ => none

/-- The code of each Comparison value (R181). -/
def comparisonCode : Comparison → Nat
  | .above => 0
  | .atOrAbove => 1
  | .below => 2
  | .atOrBelow => 3
  | .equal => 4
  | .notEqual => 5
  | .inside => 6
  | .outside => 7

/-- The Comparison value that a code names (R181). -/
def comparisonOfCode : Int → Option Comparison
  | 0 => some .above
  | 1 => some .atOrAbove
  | 2 => some .below
  | 3 => some .atOrBelow
  | 4 => some .equal
  | 5 => some .notEqual
  | 6 => some .inside
  | 7 => some .outside
  | _ => none

/-- The code of each TimingCondition value (R181). -/
def timingConditionCode : TimingCondition → Nat
  | .missing => 0
  | .lateOrMissing => 1
  | .early => 2

/-- The TimingCondition value that a code names (R181). -/
def timingConditionOfCode : Int → Option TimingCondition
  | 0 => some .missing
  | 1 => some .lateOrMissing
  | 2 => some .early
  | _ => none

/-- The code of each PortCondition value (R181). -/
def portConditionCode : PortCondition → Nat
  | .busOff => 0
  | .passiveOrWorse => 1

/-- The PortCondition value that a code names (R181). -/
def portConditionOfCode : Int → Option PortCondition
  | 0 => some .busOff
  | 1 => some .passiveOrWorse
  | _ => none

/-- The code of each SupplyCondition value (R181). -/
def supplyConditionCode : SupplyCondition → Nat
  | .low => 0
  | .over => 1
  | .notNormal => 2

/-- The SupplyCondition value that a code names (R181). -/
def supplyConditionOfCode : Int → Option SupplyCondition
  | 0 => some .low
  | 1 => some .over
  | 2 => some .notNormal
  | _ => none

/-- The FaultSystem value that a code names (R181). -/
def faultSystemOfCode : Int → Option FaultSystem
  | 0 => some .engine
  | 1 => some .brake
  | _ => none

/-- The FaultClass value that a code names (R181). -/
def faultClassOfCode : Int → Option FaultClass
  | 0 => some .selfHealing
  | 1 => some .latched
  | _ => none

/-- The LampMode value that a code names (R181). -/
def lampModeOfCode : Int → Option LampMode
  | 0 => some .off
  | 1 => some .steady
  | 2 => some .slow
  | 3 => some .fast
  | _ => none

/-- The code of each DefaultRoute value (R181). -/
def defaultRouteCode : DefaultRoute → Nat
  | .forward => 0
  | .drop => 1

/-- The DefaultRoute value that a code names (R181). -/
def defaultRouteOfCode : Int → Option DefaultRoute
  | 0 => some .forward
  | 1 => some .drop
  | _ => none

/-- The number a defect mask carries: LENGTH, CHECKSUM, REPEAT and SKIP as bits 0 to 3 (R179). -/
def DefectMask.number (m : DefectMask) : Nat :=
  bit m.length + 2 * bit m.checksum + 4 * bit m.repeated + 8 * bit m.skip

/-- The defect mask that a number from 0 to 15 carries (R179). -/
def DefectMask.ofNumber (n : Nat) : DefectMask :=
  ⟨n % 2 == 1, n / 2 % 2 == 1, n / 4 % 2 == 1, n / 8 % 2 == 1⟩

/-! ## Reading and writing one field -/

/-- The number in field `n` of a Settings record (R179). -/
def Settings.readField (e : Settings) : Nat → Option Int
  | 0 => some (e.frameCount : Int)
  | 1 => some (e.signalCount : Int)
  | 2 => some (e.watchCount : Int)
  | 3 => some (e.faultCount : Int)
  | 4 => some (e.controlRate : Int)
  | 5 => some (e.vehicleRate : Int)
  | 6 => some (defaultRouteCode e.routeToVehicle : Int)
  | 7 => some (defaultRouteCode e.routeToControl : Int)
  | 8 => some (e.requestId : Int)
  | 9 => some (e.responseId : Int)
  | 10 => some (e.statusId : Int)
  | 11 => some (e.reportId : Int)
  | 12 => some (e.statusPeriod : Int)
  | 13 => some (e.reportsPerWindow : Int)
  | 14 => some (e.startGrace : Int)
  | 15 => some (e.bulbCheck : Int)
  | 16 => some (flagNumber e.speedPresent)
  | 17 => some (e.speedSignal : Int)
  | 18 => some (e.verifySpeed : Int)
  | 19 => some (e.slowPattern.toNat : Int)
  | 20 => some (e.fastPattern.toNat : Int)
  | _ => none

/-- Field `n` of a Settings record written with `v`, checked against its range (R180, R179). -/
def Settings.writeField (e : Settings) (v : Int) : Nat → FieldWrite Settings
  | 0 => writeNat 0 96 v fun x => { e with frameCount := x }
  | 1 => writeNat 0 64 v fun x => { e with signalCount := x }
  | 2 => writeNat 0 128 v fun x => { e with watchCount := x }
  | 3 => writeNat 0 64 v fun x => { e with faultCount := x }
  | 4 => writeRate v fun x => { e with controlRate := x }
  | 5 => writeRate v fun x => { e with vehicleRate := x }
  | 6 => writeCode defaultRouteOfCode v fun x => { e with routeToVehicle := x }
  | 7 => writeCode defaultRouteOfCode v fun x => { e with routeToControl := x }
  | 8 => writeNat 0 2047 v fun x => { e with requestId := x }
  | 9 => writeNat 0 2047 v fun x => { e with responseId := x }
  | 10 => writeNat 0 2047 v fun x => { e with statusId := x }
  | 11 => writeNat 0 2047 v fun x => { e with reportId := x }
  | 12 => writePeriod v fun x => { e with statusPeriod := x }
  | 13 => writeNat 1 16 v fun x => { e with reportsPerWindow := x }
  | 14 => writeNat 0 65535 v fun x => { e with startGrace := x }
  | 15 => writeNat 0 5000 v fun x => { e with bulbCheck := x }
  | 16 => writeFlag v fun x => { e with speedPresent := x }
  | 17 => writeNat 0 63 v fun x => { e with speedSignal := x }
  | 18 => writeNat 0 2147483647 v fun x => { e with verifySpeed := x }
  | 19 => writePattern v fun x => { e with slowPattern := x }
  | 20 => writePattern v fun x => { e with fastPattern := x }
  | _ => .noField

/-- The number in field `n` of a Frame Table entry (R179). -/
def FrameEntry.readField (e : FrameEntry) : Nat → Option Int
  | 0 => some (portCode e.port : Int)
  | 1 => some (e.ident : Int)
  | 2 => some (e.length : Int)
  | 3 => some (routeCode e.route : Int)
  | 4 => some (flagNumber e.counterPresent)
  | 5 => some (e.counterByte : Int)
  | 6 => some (nibbleCode e.counterNibble : Int)
  | 7 => some (flagNumber e.checksumPresent)
  | 8 => some (e.checksumByte : Int)
  | 9 => some (e.seed : Int)
  | 10 => some (frameTimingCode e.timing : Int)
  | 11 => some (e.minPeriod : Int)
  | 12 => some (e.maxPeriod : Int)
  | 13 => some (e.timeout : Int)
  | _ => none

/-- Field `n` of a Frame Table entry written with `v`, checked against its range (R11, R179). -/
def FrameEntry.writeField (e : FrameEntry) (v : Int) : Nat → FieldWrite FrameEntry
  | 0 => writeCode portOfCode v fun x => { e with port := x }
  | 1 => writeNat 0 2047 v fun x => { e with ident := x }
  | 2 => writeNat 0 8 v fun x => { e with length := x }
  | 3 => writeCode routeOfCode v fun x => { e with route := x }
  | 4 => writeFlag v fun x => { e with counterPresent := x }
  | 5 => writeNat 0 7 v fun x => { e with counterByte := x }
  | 6 => writeCode nibbleOfCode v fun x => { e with counterNibble := x }
  | 7 => writeFlag v fun x => { e with checksumPresent := x }
  | 8 => writeNat 0 7 v fun x => { e with checksumByte := x }
  | 9 => writeNat 0 255 v fun x => { e with seed := x }
  | 10 => writeCode frameTimingOfCode v fun x => { e with timing := x }
  | 11 => writeNat 0 65535 v fun x => { e with minPeriod := x }
  | 12 => writeNat 1 65535 v fun x => { e with maxPeriod := x }
  | 13 => writeNat 1 65535 v fun x => { e with timeout := x }
  | _ => .noField

/-- The number in field `n` of a Signal Table entry (R179). -/
def SignalEntry.readField (e : SignalEntry) : Nat → Option Int
  | 0 => some (e.frameEntry : Int)
  | 1 => some (extractionCode e.extraction : Int)
  | 2 => some (e.bytePos : Int)
  | 3 => some (e.bitOffset : Int)
  | 4 => some (e.width : Int)
  | 5 => some (flagNumber e.signed)
  | 6 => some e.gain
  | 7 => some (e.shift : Int)
  | 8 => some e.offset
  | 9 => some (flagNumber e.naPresent)
  | 10 => some e.naRaw
  | _ => none

/-- Field `n` of a Signal Table entry written with `v`, checked against its range (R40, R179). -/
def SignalEntry.writeField (e : SignalEntry) (v : Int) : Nat → FieldWrite SignalEntry
  | 0 => writeNat 0 95 v fun x => { e with frameEntry := x }
  | 1 => writeCode extractionOfCode v fun x => { e with extraction := x }
  | 2 => writeNat 0 7 v fun x => { e with bytePos := x }
  | 3 => writeNat 0 7 v fun x => { e with bitOffset := x }
  | 4 => writeNat 1 8 v fun x => { e with width := x }
  | 5 => writeFlag v fun x => { e with signed := x }
  | 6 => writeInt (-32768) 32767 v fun x => { e with gain := x }
  | 7 => writeNat 0 15 v fun x => { e with shift := x }
  | 8 => writeInt (-8388608) 8388607 v fun x => { e with offset := x }
  | 9 => writeFlag v fun x => { e with naPresent := x }
  | 10 => writeInt (-32768) 65535 v fun x => { e with naRaw := x }
  | _ => .noField

/-- The number in field `n` of a Watch Table entry (R179). -/
def WatchEntry.readField (e : WatchEntry) : Nat → Option Int
  | 0 => some (watchKindCode e.kind : Int)
  | 1 => some (flagNumber e.gatePresent)
  | 2 => some (e.gateWatch : Int)
  | 3 => some (gateSenseCode e.gateSense : Int)
  | 4 => some (flagNumber e.needsNormal)
  | 5 => some (flagNumber e.linkPresent)
  | 6 => some (e.link : Int)
  | 7 => some (e.signalA : Int)
  | 8 => some (e.signalB : Int)
  | 9 => some (comparisonCode e.comparison : Int)
  | 10 => some e.thresholdA
  | 11 => some e.thresholdB
  | 12 => some (e.limit : Int)
  | 13 => some (e.skew : Int)
  | 14 => some (e.frameEntry : Int)
  | 15 => some (timingConditionCode e.timingCondition : Int)
  | 16 => some (e.defectMask.number : Int)
  | 17 => some (e.code : Int)
  | 18 => some (portCode e.port : Int)
  | 19 => some (portConditionCode e.portCondition : Int)
  | 20 => some (supplyConditionCode e.supplyCondition : Int)
  | _ => none

/-- Field `n` of a Watch Table entry written with `v`, checked against its range (R58, R59, R179). -/
def WatchEntry.writeField (e : WatchEntry) (v : Int) : Nat → FieldWrite WatchEntry
  | 0 => writeCode watchKindOfCode v fun x => { e with kind := x }
  | 1 => writeFlag v fun x => { e with gatePresent := x }
  | 2 => writeNat 0 127 v fun x => { e with gateWatch := x }
  | 3 => writeCode gateSenseOfCode v fun x => { e with gateSense := x }
  | 4 => writeFlag v fun x => { e with needsNormal := x }
  | 5 => writeFlag v fun x => { e with linkPresent := x }
  | 6 => writeNat 0 63 v fun x => { e with link := x }
  | 7 => writeNat 0 63 v fun x => { e with signalA := x }
  | 8 => writeNat 0 63 v fun x => { e with signalB := x }
  | 9 => writeCode comparisonOfCode v fun x => { e with comparison := x }
  | 10 => writeInt (-2147483648) 2147483647 v fun x => { e with thresholdA := x }
  | 11 => writeInt (-2147483648) 2147483647 v fun x => { e with thresholdB := x }
  | 12 => writeNat 0 2147483647 v fun x => { e with limit := x }
  | 13 => writeNat 1 65535 v fun x => { e with skew := x }
  | 14 => writeNat 0 95 v fun x => { e with frameEntry := x }
  | 15 => writeCode timingConditionOfCode v fun x => { e with timingCondition := x }
  | 16 => writeNat 0 15 v fun x => { e with defectMask := .ofNumber x }
  | 17 => writeNat 1 65535 v fun x => { e with code := x }
  | 18 => writeCode portOfCode v fun x => { e with port := x }
  | 19 => writeCode portConditionOfCode v fun x => { e with portCondition := x }
  | 20 => writeCode supplyConditionOfCode v fun x => { e with supplyCondition := x }
  | _ => .noField

/-- The number in field `n` of a Fault Table entry (R179). -/
def FaultEntry.readField (e : FaultEntry) : Nat → Option Int
  | 0 => some (e.code : Int)
  | 1 => some (e.system.code : Int)
  | 2 => some (e.cls.code : Int)
  | 3 => some (e.severity : Int)
  | 4 => some (e.threshold : Int)
  | 5 => some (e.upStep : Int)
  | 6 => some (e.downStep : Int)
  | 7 => some (flagNumber e.passResets)
  | 8 => some (e.agingLimit : Int)
  | 9 => some (e.lampMode.code : Int)
  | 10 => some (e.snapshotLength : Int)
  | 11 => some (e.snapshots.getD 0 0 : Int)
  | 12 => some (e.snapshots.getD 1 0 : Int)
  | 13 => some (e.snapshots.getD 2 0 : Int)
  | 14 => some (e.snapshots.getD 3 0 : Int)
  | 15 => some (e.snapshots.getD 4 0 : Int)
  | 16 => some (e.snapshots.getD 5 0 : Int)
  | _ => none

/-- Field `n` of a Fault Table entry written with `v`, checked against its range (R78, R179). -/
def FaultEntry.writeField (e : FaultEntry) (v : Int) : Nat → FieldWrite FaultEntry
  | 0 => writeNat 1 65535 v fun x => { e with code := x }
  | 1 => writeCode faultSystemOfCode v fun x => { e with system := x }
  | 2 => writeCode faultClassOfCode v fun x => { e with cls := x }
  | 3 => writeNat 1 4 v fun x => { e with severity := x }
  | 4 => writeNat 1 127 v fun x => { e with threshold := x }
  | 5 => writeNat 1 127 v fun x => { e with upStep := x }
  | 6 => writeNat 1 127 v fun x => { e with downStep := x }
  | 7 => writeFlag v fun x => { e with passResets := x }
  | 8 => writeNat 0 250 v fun x => { e with agingLimit := x }
  | 9 => writeCode lampModeOfCode v fun x => { e with lampMode := x }
  | 10 => writeNat 0 6 v fun x => { e with snapshotLength := x }
  | 11 => writeNat 0 63 v fun x => { e with snapshots := e.snapshots.set 0 x }
  | 12 => writeNat 0 63 v fun x => { e with snapshots := e.snapshots.set 1 x }
  | 13 => writeNat 0 63 v fun x => { e with snapshots := e.snapshots.set 2 x }
  | 14 => writeNat 0 63 v fun x => { e with snapshots := e.snapshots.set 3 x }
  | 15 => writeNat 0 63 v fun x => { e with snapshots := e.snapshots.set 4 x }
  | 16 => writeNat 0 63 v fun x => { e with snapshots := e.snapshots.set 5 x }
  | _ => .noField

/-! ## A field of the tables (R156) -/

/-- The field of one entry of a list of entries; absent when the index is at or beyond the capacity. -/
def readEntry {α : Type} (xs : List α) (i : Nat) (read : α → Option Int) : Option Int :=
  match xs[i]? with
  | some e => read e
  | none => none

/-- A list of entries with one entry written; an index at or beyond the capacity is no field. -/
def writeEntry {α : Type} (xs : List α) (i : Nat) (write : α → FieldWrite α) : FieldWrite (List α) :=
  match xs[i]? with
  | none => .noField
  | some e =>
    match write e with
    | .noField => .noField
    | .badValue => .badValue
    | .ok e' => .ok (xs.set i e')

/-- What a function makes of the written value. -/
def FieldWrite.map {α β : Type} (f : α → β) : FieldWrite α → FieldWrite β
  | .noField => .noField
  | .badValue => .badValue
  | .ok a => .ok (f a)

/-- READ_TABLE's value: the field's number as the tables hold it; absent for BAD_INDEX (R156). -/
def Tables.readField (t : Tables) (name : TableName) (index field : Nat) : Option Int :=
  match name with
  | .settings => if index = 0 then t.settings.readField field else none
  | .frames => readEntry t.frames index (·.readField field)
  | .signals => readEntry t.signals index (·.readField field)
  | .watches => readEntry t.watches index (·.readField field)
  | .faults => readEntry t.faults index (·.readField field)

/-- WRITE_TABLE's effect on the tables: `noField` for BAD_INDEX, `badValue` for BAD_VALUE (R156). -/
def Tables.writeField (t : Tables) (name : TableName) (index field : Nat) (v : Int) : FieldWrite Tables :=
  match name with
  | .settings =>
    if index = 0 then (t.settings.writeField v field).map fun e => { t with settings := e } else .noField
  | .frames => (writeEntry t.frames index (·.writeField v field)).map fun l => { t with frames := l }
  | .signals => (writeEntry t.signals index (·.writeField v field)).map fun l => { t with signals := l }
  | .watches => (writeEntry t.watches index (·.writeField v field)).map fun l => { t with watches := l }
  | .faults => (writeEntry t.faults index (·.writeField v field)).map fun l => { t with faults := l }

end Sys2Proof.Machine
end

