-- ==== Sys2Proof/Machine/Responder.lean ====
section
/-! DEFINITION. The Service Responder: decoding a request frame, the three cases of a request's arrival, what
each request does and answers, and the offers of waiting frames and response parts (R148 to R162, R178). -/

namespace Sys2Proof.Machine

/-! ## Decoding a request frame (R148, R178) -/

/-- The request that the data bytes of a request frame carry. -/
def decodeRequest (data : List Byte) : Request :=
  match data with
  | [] => .badRequest 0
  | code :: p =>
    match code.toNat, p with
    | 0x01, [] => .readStatus 0
    | 0x01, page :: _ => .readStatus page
    | 0x02, slot :: _ => .readRecord slot
    | 0x03, i :: _ => .readFrameState i
    | 0x04, i :: _ => .readSignal i
    | 0x05, i :: _ => .readWatch i
    | 0x06, i :: _ => .readFaultState i
    | 0x07, t :: i :: f :: _ => .readTable t i f
    | 0x08, t :: i :: f :: v3 :: v2 :: v1 :: v0 :: _ => .writeTable t i f (v3 ++ v2 ++ v1 ++ v0)
    | 0x09, _ => .revert
    | 0x0A, scope :: c1 :: c0 :: _ => .clear scope (c1 ++ c0)
    | 0x0A, scope :: _ => if scope = 3 then .badRequest code else .clear scope 0
    | 0x0B, _ => .commit
    | 0x0C, _ => .restart
    | _, _ => .badRequest code

/-- The request code that the answer to a request carries (R148, R178). -/
def Request.code : Request → Byte
  | .readStatus _ => 0x01
  | .readRecord _ => 0x02
  | .readFrameState _ => 0x03
  | .readSignal _ => 0x04
  | .readWatch _ => 0x05
  | .readFaultState _ => 0x06
  | .readTable _ _ _ => 0x07
  | .writeTable _ _ _ _ => 0x08
  | .revert => 0x09
  | .clear _ _ => 0x0A
  | .commit => 0x0B
  | .restart => 0x0C
  | .badRequest c => c

/-- The request is READ_STATUS, which is answered while the responder is SENDING (R150). -/
def Request.isReadStatus : Request → Bool
  | .readStatus _ => true
  | .readRecord _ | .readFrameState _ | .readSignal _ | .readWatch _ | .readFaultState _
  | .readTable _ _ _ | .writeTable _ _ _ _ | .revert | .clear _ _ | .commit | .restart
  | .badRequest _ => false

/-! ## Answers -/

/-- One single-frame answer is formed and offered (R148, R150). -/
def State.answer (s : State) (code : Byte) (r : ServiceResult) (rest : List Byte) : State :=
  s.offerResponse (s.responseFrame (answerHead code r ++ rest) false)

/-- A frozen copy is taken, the responder becomes SENDING, and part 0 is offered (R151). -/
def State.beginParts (s : State) (c : FrozenCopy) : State :=
  let t := s.withResponder
    { s.responder with state := .sending, copy := some c, nextPart := 0, departed := false }
  t.offerPartFrame (t.responseFrame (c.part 0) false)

/-! ## Reading state (R152 to R154, R156) -/

/-- The READ_STATUS answer (R152, R178). -/
def State.statusPage (s : State) (page : Byte) : ServiceResult × List Byte :=
  if page = 0 then
    (.ok, [0, byteOf s.power.code,
      byteOf (s.retained.lastReset.code + 4 * s.store.state.code + 16 * s.responder.state.code),
      byteOf s.clashes, byteOf s.control.forwardDrop, byteOf s.vehicle.forwardDrop])
  else if page = 1 then (.ok, [1, byteOf s.control.unknown, byteOf s.vehicle.unknown])
  else (.badIndex, [])

/-- READ_STATUS (R152). -/
def State.serveReadStatus (s : State) (page : Byte) : State :=
  s.answer 0x01 (s.statusPage page).1 (s.statusPage page).2

/-- READ_RECORD (R153): an ACTIVE or STORED slot is answered in parts, another slot by its state alone. -/
def State.serveReadRecord (s : State) (slot : Byte) : State :=
  if slot.toNat < Config.slotCount then
    match s.retained.slots.getD slot.toNat .empty with
    | .active r => s.beginParts (.record false r)
    | .stored r => s.beginParts (.record true r)
    | .empty => s.answer 0x02 .ok [byteOf (16 * Slot.empty.stateCode)]
    | .writing c => s.answer 0x02 .ok [byteOf (16 * (Slot.writing c).stateCode)]
  else s.answer 0x02 .badIndex []

/-- READ_FRAME_STATE (R154). -/
def State.serveReadFrameState (s : State) (i : Byte) : State :=
  match entryAt s.working.settings.frameCount s.monitor i.toNat with
  | some r => s.beginParts (.frameState r)
  | none => s.answer 0x03 .badIndex []

/-- READ_SIGNAL (R154). -/
def State.serveReadSignal (s : State) (i : Byte) : State :=
  match entryAt s.working.settings.signalCount s.cache i.toNat with
  | some c => s.beginParts (.signal c)
  | none => s.answer 0x04 .badIndex []

/-- READ_WATCH (R154). -/
def State.serveReadWatch (s : State) (i : Byte) : State :=
  match entryAt s.working.settings.watchCount s.watches i.toNat with
  | some w => s.answer 0x05 .ok ([byteOf w.result.code, byteOf (reasonCode w.reason)] ++ bytes32 w.time)
  | none => s.answer 0x05 .badIndex []

/-- READ_FAULT_STATE (R154). -/
def State.serveReadFaultState (s : State) (i : Byte) : State :=
  match entryAt s.working.settings.faultCount s.faults i.toNat with
  | some f =>
    let r := s.retained.rideFlags.getD i.toNat .clear
    s.answer 0x06 .ok [byteOf f.state.code, byteOf f.counter, byteOf (bit r.tested + 2 * bit r.confirmed)]
  | none => s.answer 0x06 .badIndex []

/-- READ_TABLE (R156). -/
def State.serveReadTable (s : State) (table i field : Byte) : State :=
  match (TableName.ofCode table.toNat).bind fun t => s.staging.readField t i.toNat field.toNat with
  | some v => s.answer 0x07 .ok ([i, field] ++ bytesSigned v)
  | none => s.answer 0x07 .badIndex []

/-- What WRITE_TABLE makes of the staging tables (R156). -/
def Tables.writeByCode (t : Tables) (table i field : Byte) (value : BitVec 32) : FieldWrite Tables :=
  match TableName.ofCode table.toNat with
  | some name => t.writeField name i.toNat field.toNat value.toInt
  | none => .noField

/-- WRITE_TABLE (R156). -/
def State.serveWriteTable (s : State) (table i field : Byte) (value : BitVec 32) : State :=
  match s.staging.writeByCode table i field value with
  | .noField => s.answer 0x08 .badIndex []
  | .badValue => s.answer 0x08 .badValue []
  | .ok t => State.answer { s with staging := t } 0x08 .ok []

/-- REVERT (R156). -/
def State.serveRevert (s : State) : State := State.answer { s with staging := s.working } 0x09 .ok []

/-! ## CLEAR (R157) -/

/-- The scope that a scope code and a fault code name; absent for BAD_VALUE (R157, R178). -/
def clearScope (scope : Byte) (code : BitVec 16) : Option ClearScope :=
  match scope.toNat with
  | 0 => some .all
  | 1 => some .engine
  | 2 => some .brake
  | 3 => if code = 0 then none else some (.code code.toNat)
  | _ => none

/-- The fault of an index is matched by a scope (R97). -/
def ClearScope.matchesIndex (scope : ClearScope) (t : Tables) (i : Nat) : Bool :=
  match entryAt t.settings.faultCount t.faults i with
  | some e => scope.matchesFault e
  | none => false

/-- Retained memory after an accepted CLEAR (R97, R117). -/
def Retained.cleared (r : Retained) (scope : ClearScope) (t : Tables) (sel : Nat → Bool) : Retained :=
  { r with
    slots := r.slots.map (Slot.cleared sel)
    flags := if scope = .all then ⟨false, false, false, false⟩ else r.flags
    rideFlags := mapFrom (fun i f => if scope.matchesIndex t i then .clear else f) 0 r.rideFlags }

/-- An accepted CLEAR, in one step (R97, R117, R118, R137, R157). -/
def State.acceptClear (s : State) (scope : ClearScope) : State :=
  let sel := scope.selects s.working s.retained.slots s.writeQueue
  State.refreshLamps
    { s with
      faults := mapFrom (fun i f => if scope.matchesIndex s.working i then ⟨.notTested, 0⟩ else f) 0 s.faults
      retained := s.retained.cleared scope s.working sel
      writeQueue := s.writeQueue.filterMap (WriteEntry.cleared sel)
      reports := s.reports.filter fun e => !scope.removesReport sel e }

/-- CLEAR (R157): the scope, then stationary, then no slot WRITING. -/
def State.serveClear (s : State) (scope : Byte) (code : BitVec 16) : State :=
  match clearScope scope code with
  | none => s.answer 0x0A .badValue []
  | some c =>
    if !s.stationary then s.answer 0x0A .notStationary []
    else if s.retained.slots.any Slot.isWriting then s.answer 0x0A .busy []
    else (s.acceptClear c).answer 0x0A .ok []

/-! ## COMMIT (R158 to R160) -/

/-- The first condition of a COMMIT that fails, with the bytes its answer carries (R159). -/
def State.commitRefusal (s : State) : Option (ServiceResult × List Byte) :=
  if !s.stationary then some (.notStationary, [])
  else if s.band ≠ .normal then some (.supply, [])
  else if s.store.state = .writing then some (.storeBusy, [])
  else
    match s.staging.inconsistency with
    | some (t, i) => some (.inconsistent, [byteOf t.code, byteOf i])
    | none => none

/-- The pacer after an accepted commit: a changed rate is pending (R140). -/
def Pacer.commit (p : Pacer) (old new : Settings) : Pacer :=
  if old.reportsPerWindow = new.reportsPerWindow then p
  else { p with pendingRate := some new.reportsPerWindow }

/-- A lamp after an accepted commit: its mode set anew, and a changed pattern pending (R128, R132). -/
def Lamp.commit (l : Lamp) (old new : Settings) (m : LampMode) : Lamp :=
  let k := l.setMode new m
  if old.slowPattern = new.slowPattern ∧ old.fastPattern = new.fastPattern then k else k.repattern new

/-- The tables, the runtime records and the store after acceptance of a COMMIT, before the lamps and the PORT
watches (R21, R53, R75, R91, R96, R158, R160). The store write's duration is free, up to 300 ms (log
entry 19). -/
def State.installTables (s : State) : State :=
  let t := s.staging
  let run := s.isRunning
  { s with
    working := t
    configured := true
    monitor := if run then initialMonitor t s.degraded s.now else stoppedMonitor t
    cache := initialCache t
    watches := uniformWatches t (if run then .notYet else .notRunning) s.now
    faults := deriveFaults t s.retained.slots s.writeQueue
    retained := { s.retained with rideFlags := clearFlagsBelow t.settings.faultCount s.retained.rideFlags }
    pacer := s.pacer.commit s.working.settings t.settings
    store :=
      { state := .writing
        tables := t
        elapsed := 0
        duration := s.free.draw.1 % (Config.storeWriteMs + 1) }
    free := s.free.draw.2 }

/-- Both lamps after an accepted commit; `old` are the Settings before it (R132). -/
def State.commitLamps (s : State) (old : Settings) : State :=
  { s with
    engineLamp := s.engineLamp.commit old s.working.settings (s.modeOf .engine)
    brakeLamp := s.brakeLamp.commit old s.working.settings (s.modeOf .brake) }

/-- An accepted COMMIT, in one step (R160). -/
def State.acceptCommit (s : State) : State :=
  let t := s.installTables.commitLamps s.working.settings
  if t.isRunning then t.watchEvent (reachInit t.view) else t

/-- COMMIT (R159, R160). -/
def State.serveCommit (s : State) : State :=
  match s.commitRefusal with
  | some x => s.answer 0x0B x.1 x.2
  | none => s.acceptCommit.answer 0x0B .ok []

/-! ## RESTART (R162) -/

/-- RESTART (R162). -/
def State.serveRestart (s : State) : State :=
  if !s.stationary then s.answer 0x0C .notStationary []
  else if s.store.state = .writing then s.answer 0x0C .storeBusy []
  else
    let t := s.withResponder { s.responder with restartPending := true, restartDue := false }
    t.offerResponse (t.responseFrame (answerHead 0x0C .ok) true)

/-! ## A request's arrival (R150) -/

/-- The request is decoded and handled by its own rule (R150, case 3). -/
def State.serve (s : State) : Request → State
  | .readStatus page => s.serveReadStatus page
  | .readRecord slot => s.serveReadRecord slot
  | .readFrameState i => s.serveReadFrameState i
  | .readSignal i => s.serveReadSignal i
  | .readWatch i => s.serveReadWatch i
  | .readFaultState i => s.serveReadFaultState i
  | .readTable t i f => s.serveReadTable t i f
  | .writeTable t i f v => s.serveWriteTable t i f v
  | .revert => s.serveRevert
  | .clear scope code => s.serveClear scope code
  | .commit => s.serveCommit
  | .restart => s.serveRestart
  | .badRequest code => s.answer code .badRequest []

/-- The responder refuses a request with BUSY (R150, case 2). -/
def Responder.refuses (r : Responder) (q : Request) : Bool :=
  r.restartPending || (r.state == .sending && !q.isReadStatus)

/-- A request arrives (R148, R150): taken in RUNNING and AFTER_RUN, discarded while a responder frame waits,
answered BUSY, or handled. -/
def State.handle (s : State) (q : Request) : State :=
  if !s.isAwake then s
  else if s.responder.waiting.isSome then s
  else if s.responder.refuses q then s.answer q.code .busy []
  else s.serve q

/-! ## Offers at a departure (R8, R150) -/

/-- The waiting frame is offered again, as the part it is or as a single frame (R8, R150). -/
def State.reofferWaiting (s : State) : State :=
  match s.responder.waiting with
  | some f =>
    if s.responder.departed then
      let t := s.withResponder { s.responder with waiting := none, departed := false, partWaits := false }
      if s.responder.partWaits then t.offerPartFrame f else t.offerResponse f
    else s
  | none => s

/-- The next part of a response is offered (R150, R151). -/
def State.offerPart (s : State) : State :=
  match s.responder.copy with
  | some c =>
    if s.responder.state = .sending ∧ s.responder.waiting = none ∧ s.responder.departed then
      let t := s.withResponder { s.responder with departed := false }
      t.offerPartFrame (t.responseFrame (c.part s.responder.nextPart) false)
    else s
  | none => s

end Sys2Proof.Machine
end

