-- ==== Sys2Proof/Machine/PortCommands.lean ====
section
/-! DEFINITION. The meanings of the port commands and of FRAME_TIMER_EXPIRY (01_frame_path,
02_frame_supervision). A command whose conditions do not hold in a state leaves the state as it is (log
entry 2). -/

namespace Sys2Proof.Machine

/-! ## FRAME_RECEIVED (R9 to R14) -/

/-- The identifier is one that the module itself sends: status, report or service response (R9). -/
def Settings.clashes (t : Settings) (ident : Nat) : Bool :=
  ident == t.statusId || ident == t.reportId || ident == t.responseId

/-- An identifier clash is counted (R9, R15). -/
def State.countClash (s : State) : State := { s with clashes := saturate Config.count8 s.clashes 1 }

/-- A STANDARD DATA frame that is looked up in the Frame Table (R10). -/
def State.lookedUp (s : State) (p : Port) (f : CanFrame) : State :=
  match s.working.lookup p f.ident with
  | some i =>
    match s.working.frames[i]? with
    | some e => s.knownFrame p i e f
    | none => s.unknownFrame p f
  | none => s.unknownFrame p f

/-- The sorting of a received frame by format, kind, port and identifier (R9). -/
def State.sortFrame (s : State) (p : Port) (f : CanFrame) : State :=
  if f.format = .extended ∨ f.kind = .remote then s.unknownFrame p f
  else if p = .vehicle ∧ f.ident = s.working.settings.requestId then s.handle (decodeRequest f.data)
  else if p = .vehicle ∧ s.working.settings.clashes f.ident then s.countClash
  else s.lookedUp p f

/-- FRAME_RECEIVED (R3, R9): the receive error count falls and a change of the port's state is announced, then the frame
is sorted (DEDUCED, log entries 8 and 10). A port receives a frame whole or not at all: an operand that is no CAN frame
is not received and changes nothing (DESIGN CHOICE, log entry 20). -/
def execFrameReceived (p : Port) (f : CanFrame) (s : State) : Host.Outcome State Fault Refusal :=
  .next
    (if f.wellFormed && (s.port p).live then (s.changePort p (s.port p).received).sortFrame p f.received else s)

/-! ## The other events of a port (R3 to R5) -/

/-- RECEIVE_ERROR (R3). -/
def execReceiveError (p : Port) (s : State) : Host.Outcome State Fault Refusal :=
  .next (if (s.port p).live then s.changePort p (s.port p).receiveFailed else s)

/-- LOST_ARBITRATION (R4): no count changes and the head frame stays at the head. -/
def execLostArbitration (_p : Port) (s : State) : Host.Outcome State Fault Refusal := .next s

/-- The port has a frame on its bus (R4). -/
def PortRecord.offering (p : PortRecord) : Bool := p.live && !p.queue.isEmpty

/-- A departure from a port's queue by transmission; on the vehicle port the responder's offers fall due
(R8, R150, R162). -/
def State.departedSent (s : State) (p : Port) : State :=
  match p with
  | .control => s
  | .vehicle => s.withResponder (s.responder.afterSent s.vehicle.queue.isEmpty)

/-- TRANSMIT_SUCCESS (R4). -/
def execTransmitSuccess (p : Port) (s : State) : Host.Outcome State Fault Refusal :=
  .next (if (s.port p).offering then (s.changePort p (s.port p).sent).departedSent p else s)

/-- The queue of a port holds the OK frame of an accepted RESTART. -/
def PortRecord.holdsOk (p : PortRecord) : Bool := p.queue.any (·.restartOk)

/-- The emptying of a port's queue at entry to BUS_OFF; on the vehicle port the responder's offers fall due, and
a restart whose OK frame is lost is abandoned (R8, R162). `before` is the port before the transmit error. -/
def State.departedEmptied (s : State) (p : Port) (before : PortRecord) : State :=
  match p with
  | .control => s
  | .vehicle =>
    if s.vehicle.state = .busOff then s.withResponder (s.responder.afterEmptied before.holdsOk) else s

/-- TRANSMIT_ERROR (R4, R5). -/
def execTransmitError (p : Port) (s : State) : Host.Outcome State Fault Refusal :=
  .next
    (if (s.port p).offering then (s.changePort p (s.port p).sendFailed).departedEmptied p (s.port p) else s)

/-- RECOVERY_SEQUENCE (R5). -/
def execRecoverySequence (p : Port) (s : State) : Host.Outcome State Fault Refusal :=
  .next (if (s.port p).state = .busOff then s.changePort p (s.port p).recovered else s)

/-- WAITING_FRAME_REOFFER (R8). -/
def execWaitingFrameReoffer (s : State) : Host.Outcome State Fault Refusal := .next s.reofferWaiting

/-- RESPONSE_PART_OFFER (R150, R151). -/
def execResponsePartOffer (s : State) : Host.Outcome State Fault Refusal := .next s.offerPart

/-- FRAME_TIMER_EXPIRY (R31). -/
def execFrameTimerExpiry (entry : Nat) (s : State) : Host.Outcome State Fault Refusal :=
  .next (if s.expiryDue entry then s.expire entry else s)

end Sys2Proof.Machine
end

