-- ==== Sys2Proof/Machine/PowerCommands.lean ====
section
/-! DEFINITION. The meanings of the commands of the supply, the resets, the key line, the end of AFTER_RUN, the
Timebase and the Settings Store (10_supply_timebase_and_rides, R158, R162). A command whose conditions do not
hold in a state leaves the state as it is (log entry 2). -/

namespace Sys2Proof.Machine

/-! ## SUPPLY_SAMPLE and SUPPLY_EVALUATION (R163, R164) -/

/-- The module is held in a reset: STARTING has been entered by a reset and start-up has not run (R165). -/
def State.isHeld (s : State) : Bool := s.power == .starting && s.stage == .held

/-- A store write in progress is aborted when the band leaves NORMAL (R158). -/
def State.abortStore (s : State) (b : Band) : State :=
  if s.store.state = .writing ∧ b ≠ .normal then
    { s with store := { s.store with state := .invalid }, storeFailed := true }
  else s

/-- The change of the band is handed to the Watch Evaluator while RUNNING (R73, R164). -/
def State.announceBand (s : State) (old : Band) : State :=
  if s.isRunning then s.watchEvent (reachBand s.view old) else s

/-- The band after a sample: a change is handed to the Watch Evaluator and the Settings Store (R164). -/
def State.setBand (s : State) (b : Band) : State :=
  if b = s.band then s
  else ((State.abortStore { s with band := b } b).announceBand s.band).standbyPastLimit

/-- A supply evaluation: the band is handed to every SUPPLY watch, and the count of samples begins again (R69,
R164). -/
def State.evaluateSupply (s : State) : State :=
  let t := { s with sampleCount := 0 }
  t.watchEvent (reachSupply t.view)

/-- A sample counts towards the next supply evaluation while RUNNING; the tenth makes it, with the band as that
sample set it (R164). -/
def State.countSample (s : State) : State :=
  if !s.isRunning then s
  else if s.sampleCount + 1 < 10 then { s with sampleCount := s.sampleCount + 1 }
  else s.evaluateSupply

/-- The battery read at a sample; below 3.0 V retained memory is lost with it (R163, R166). -/
def State.readBattery (s : State) (v : Nat) : State :=
  { (if v < 30 then s.loseRetained else s) with battery := v, sampleElapsed := 0 }

/-- A module held in a reset that meets a sample of `v` tenths of a volt: after a SERVICE_RESTART a sample below 6.0 V
resets it again with kind SUPPLY_DIP; a module that waits for 6.3 V stays in its reset, and its kind stays (R165;
log entry 22). -/
def State.sampleHeld (s : State) (v : Nat) : State :=
  if s.resetKind = .serviceRestart ∧ v < 60 then s.resetModule .supplyDip else s

/-- A sample of the battery of `v` tenths of a volt (R163 to R165). -/
def State.takeSample (s : State) (v : Nat) : State :=
  let t := s.readBattery v
  if s.isHeld then t.sampleHeld v
  else
    match nextBand s.band v with
    | none => t.resetModule .supplyDip
    | some b => (t.setBand b).countSample

/-- SUPPLY_SAMPLE (R163). -/
def execSupplySample (v : Nat) (s : State) : Host.Outcome State Fault Refusal := .next (s.takeSample v)

/-- The next sample is one at which a supply evaluation is made: the tenth in RUNNING (R164). -/
def State.tenthIsNext (s : State) : Bool := s.isRunning && decide (9 ≤ s.sampleCount)

/-- SUPPLY_EVALUATION (R164): the tenth sample itself, at the battery level as last commanded, with the evaluation
that it makes; no evaluation is made at any other moment (log entry 27). -/
def execSupplyEvaluation (s : State) : Host.Outcome State Fault Refusal :=
  .next (if s.tenthIsNext then s.takeSample s.battery else s)

/-! ## POWER_ON, SUPPLY_COLLAPSE_BELOW_3V and STARTUP (R165 to R168) -/

/-- The supply rises from below 3.0 V into a module that is not held in a SUPPLY_DIP reset; retained memory has
been lost while it was below (R165, R166). -/
def State.powerOn (s : State) : State :=
  if s.isHeld && s.resetKind == .supplyDip then s
  else State.resetModule { s.loseRetained with battery := 30 } .powerOn

/-- POWER_ON (R165; log entry 16). -/
def execPowerOn (s : State) : Host.Outcome State Fault Refusal := .next s.powerOn

/-- Start-up runs (R167). After a reset it takes the first sample: one below 6.0 V resets the module again with kind
SUPPLY_DIP (R163, R165; log entry 17). -/
def State.startUp (s : State) : State :=
  if s.stage = .held ∧ s.battery < 60 then s.resetModule .supplyDip else s.setUp.finishStart

/-- STARTUP (R167). -/
def execStartup (s : State) : Host.Outcome State Fault Refusal :=
  .next (if s.canStart then s.startUp else s)

/-- SUPPLY_COLLAPSE_BELOW_3V (R166; log entries 7, 16 and 23). -/
def execSupplyCollapse (s : State) : Host.Outcome State Fault Refusal :=
  .next { s.loseRetained with battery := 0 }

/-! ## The key line (R169) -/

/-- KEY_LEVEL_CHANGE (R169): a new level starts its settling. -/
def execKeyLevelChange (on : Bool) (s : State) : Host.Outcome State Fault Refusal :=
  .next (if on = s.keyLine then s else { s with keyLine := on, keyElapsed := 0 })

/-- A settled key-on, by power state (R167 to R169, R174, R175). -/
def State.settleOn (s : State) : State :=
  let t := { s with keySettled := some true }
  match s.power, s.stage with
  | .starting, .waitKey => t.rideDecision true
  | .starting, _ => t
  | .running, _ => t
  | .afterRun, _ => t.newRide
  | .standby, _ => t.intoStarting .keyOn

/-- KEY_ON_SETTLED (R169). -/
def execKeyOnSettled (s : State) : Host.Outcome State Fault Refusal :=
  .next (if s.keyLine && !s.isHeld then s.settleOn else s)

/-- A settled key-off, by power state (R167 to R169, R173). -/
def State.settleOff (s : State) : State :=
  let t := { s with keySettled := some false }
  match s.power, s.stage with
  | .starting, .waitKey => t.rideDecision false
  | .starting, _ => t
  | .running, _ => t.endRide
  | .afterRun, _ => t
  | .standby, _ => t

/-- KEY_OFF_SETTLED (R169). -/
def execKeyOffSettled (s : State) : Host.Outcome State Fault Refusal :=
  .next (if !s.keyLine && !s.isHeld then s.settleOff else s)

/-! ## The end of AFTER_RUN (R121, R174) -/

/-- The end condition of AFTER_RUN (R174). -/
def State.drained (s : State) : Bool :=
  s.inAfterRun && s.reports.isEmpty && s.control.queue.isEmpty && s.vehicle.queue.isEmpty
    && s.writeQueue.isEmpty && s.write.isNone && s.store.state != .writing

/-- AFTER_RUN_END (R174). -/
def execAfterRunEnd (s : State) : Host.Outcome State Fault Refusal :=
  .next (if s.drained then s.intoStandby else s)

/-- What the limit leaves of the write queue: nothing, or the entry whose write is in progress, an AGE entry with
the code being written alone (R121). -/
def queueAtLimit (writing : Bool) (q : List WriteEntry) : List WriteEntry :=
  if writing then
    match q with
    | .age (c :: _) :: _ => [.age [c]]
    | head :: _ => [head]
    | [] => []
  else []

/-- At least one entry whose write has not begun is discarded at the limit (R121). -/
def discardsEntry (writing : Bool) (q : List WriteEntry) : Bool :=
  if writing then !q.tail.isEmpty else !q.isEmpty

/-- Codes of the AGE entry whose current code is being written are discarded at the limit (R121). -/
def discardsCodes (writing : Bool) (q : List WriteEntry) : Bool :=
  match writing, q with
  | true, .age (_ :: _ :: _) :: _ => true
  | _, _ => false

/-- DEFERRED_OVERFLOW after the limit, and the source of free choices. Whether discarded codes alone set the flag
is a free choice (R121; log entry 12). -/
def overflowAtLimit (writing : Bool) (q : List WriteEntry) (flag : Bool) (f : FreeSource) :
    Bool × FreeSource :=
  if discardsEntry writing q then (true, f)
  else if discardsCodes writing q then (flag || f.draw.1 % 2 == 1, f.draw.2)
  else (flag, f)

/-- The limit of AFTER_RUN (R121, R174). -/
def State.reachLimit (s : State) : State :=
  let o := overflowAtLimit s.write.isSome s.writeQueue s.retained.flags.deferredOverflow s.free
  State.standbyPastLimit
    { s with
      writeQueue := queueAtLimit s.write.isSome s.writeQueue
      retained := { s.retained with flags := { s.retained.flags with deferredOverflow := o.1 } }
      free := o.2
      limitPassed := true }

/-- AFTER_RUN_LIMIT (R121, R174). -/
def execAfterRunLimit (s : State) : Host.Outcome State Fault Refusal :=
  .next (if s.inAfterRun && !s.limitPassed then s.reachLimit else s)

/-! ## CRYSTAL_STOP, STORE_WRITE_COMPLETE and SERVICE_RESTART (R158, R162, R176) -/

/-- CRYSTAL_STOP (R176). -/
def execCrystalStop (s : State) : Host.Outcome State Fault Refusal :=
  .next { s with crystalRuns := false, timebase := .internal, degraded := true }

/-- The state after the store write completes (R158, R174). -/
def State.completeStore (s : State) : State :=
  State.standbyPastLimit { s with store := { s.store with state := .valid }, storeFailed := false }

/-- STORE_WRITE_COMPLETE (R158). -/
def execStoreWriteComplete (s : State) : Host.Outcome State Fault Refusal :=
  .next (if s.store.state = .writing then s.completeStore else s)

/-- The restart falls due: the vehicle queue has become empty by a successful transmission, or the command
itself stands for the transmission of its one frame (R162; log entry 14). -/
def State.restartFallsDue (s : State) : Bool :=
  s.responder.restartPending &&
    (s.responder.restartDue ||
      (s.vehicle.live && s.vehicle.queue.length == 1 && s.responder.waiting.isNone))

/-- SERVICE_RESTART (R162, R165). -/
def execServiceRestart (s : State) : Host.Outcome State Fault Refusal :=
  .next (if s.restartFallsDue then s.resetModule .serviceRestart else s)

end Sys2Proof.Machine
end

