-- ==== Sys2Proof/Machine/RequestCommands.lean ====
section
/-! DEFINITION. The meanings of the service requests, each a request that the Service Responder has decoded (09,
R178; log entries 8 and 21). -/

namespace Sys2Proof.Machine

/-- READ_STATUS (R152). -/
def execReadStatus (page : Byte) (s : State) : Host.Outcome State Fault Refusal :=
  .next (s.handle (.readStatus page))

/-- READ_RECORD (R153). -/
def execReadRecord (slot : Byte) (s : State) : Host.Outcome State Fault Refusal :=
  .next (s.handle (.readRecord slot))

/-- READ_FRAME_STATE (R154). -/
def execReadFrameState (index : Byte) (s : State) : Host.Outcome State Fault Refusal :=
  .next (s.handle (.readFrameState index))

/-- READ_SIGNAL (R154). -/
def execReadSignal (index : Byte) (s : State) : Host.Outcome State Fault Refusal :=
  .next (s.handle (.readSignal index))

/-- READ_WATCH (R154). -/
def execReadWatch (index : Byte) (s : State) : Host.Outcome State Fault Refusal :=
  .next (s.handle (.readWatch index))

/-- READ_FAULT_STATE (R154). -/
def execReadFaultState (index : Byte) (s : State) : Host.Outcome State Fault Refusal :=
  .next (s.handle (.readFaultState index))

/-- READ_TABLE (R156). -/
def execReadTable (table index field : Byte) (s : State) : Host.Outcome State Fault Refusal :=
  .next (s.handle (.readTable table index field))

/-- WRITE_TABLE (R156). -/
def execWriteTable (table index field : Byte) (value : BitVec 32) (s : State) : Host.Outcome State Fault Refusal :=
  .next (s.handle (.writeTable table index field value))

/-- REVERT (R156). -/
def execRevert (s : State) : Host.Outcome State Fault Refusal :=
  .next (s.handle .revert)

/-- CLEAR (R157). -/
def execClear (scope : Byte) (code : BitVec 16) (s : State) : Host.Outcome State Fault Refusal :=
  .next (s.handle (.clear scope code))

/-- COMMIT (R160). -/
def execCommit (s : State) : Host.Outcome State Fault Refusal :=
  .next (s.handle .commit)

/-- RESTART (R162). -/
def execRestart (s : State) : Host.Outcome State Fault Refusal :=
  .next (s.handle .restart)

/-- BAD_REQUEST (R148). -/
def execBadRequest (code : Byte) (s : State) : Host.Outcome State Fault Refusal :=
  .next (s.handle (.badRequest code))

end Sys2Proof.Machine
end

