-- ==== Sys2Proof/Machine/Clock.lean ====
section
/-! DEFINITION. What the module does of itself when no command waits: a millisecond of the Timebase passes, or an
event that has fallen due happens (R127, R138, R144, R163, R164, R169, R172, R174, R176; log entries 1 and
32). -/

namespace Sys2Proof.Machine

/-! ## A millisecond of the Timebase (R176) -/

/-- A count of milliseconds that runs while a condition holds. -/
def runWhile (c : Bool) (n : Nat) : Nat := if c then n + 1 else n

/-- The ride clock after a millisecond: it runs in RUNNING and AFTER_RUN and saturates (R172). -/
def Retained.tick (r : Retained) (awake : Bool) : Retained :=
  { r with rideClock := if awake then saturate Config.clockLimit r.rideClock 1 else r.rideClock }

/-- A slot write after a millisecond. -/
def SlotWrite.tick (w : SlotWrite) : SlotWrite := { w with elapsed := w.elapsed + 1 }

/-- One millisecond of the Timebase passes. A module held in a reset measures nothing. -/
def State.tick (s : State) : State :=
  { s with
    retained := s.retained.tick s.isAwake
    write := if s.isAwake then s.write.map SlotWrite.tick else s.write
    store := { s.store with elapsed := runWhile (s.store.state == .writing) s.store.elapsed }
    pacer := { s.pacer with elapsed := runWhile s.pacer.running s.pacer.elapsed }
    sampleElapsed := runWhile (!s.isHeld) s.sampleElapsed
    keyElapsed := runWhile (!s.isHeld) s.keyElapsed
    lampElapsed := runWhile s.isRunning s.lampElapsed
    statusElapsed := runWhile s.statusPeriod.isSome s.statusElapsed
    afterRunElapsed := runWhile s.inAfterRun s.afterRunElapsed }

/-! ## The events that have fallen due -/

/-- A command when it is due. -/
def dueWhen (c : Bool) (i : Instr) : List Instr := if c then [i] else []

/-- The KEY line has settled at a level that is not the settled one (R169). -/
def State.keyDue (s : State) : Bool :=
  !s.isHeld && decide (Config.settleMs ≤ s.keyElapsed) && s.keySettled != some s.keyLine

/-- The completion that the entry at the head of the write queue calls for. -/
def WriteEntry.completion : WriteEntry → Instr
  | .confirm _ => .confirmWriteComplete
  | .heal _ _ => .healWriteComplete
  | .age _ => .ageWriteComplete

/-- The completion that is due of the slot write in progress (R106). -/
def State.writeDue (s : State) : List Instr :=
  match s.write, s.writeQueue with
  | some w, head :: _ => dueWhen (s.isAwake && decide (w.duration ≤ w.elapsed)) head.completion
  | _, _ => []

/-- The status timer has reached its period (R144). -/
def State.statusDue (s : State) : Bool :=
  match s.statusPeriod with
  | some p => decide (p ≤ s.statusElapsed)
  | none => false

/-- The timers of the Frame Monitor that have reached their expiry times (R31). -/
def State.timersDue (s : State) : List Instr :=
  ((List.range s.monitor.length).filter fun i => s.expiryDue i).map fun i => .frameTimerExpiry i

/-- The vehicle queue has become empty with a restart pending (R162). -/
def Responder.restartIsDue (r : Responder) : Bool := r.restartPending && r.restartDue

/-- The events that have fallen due. -/
def State.due (s : State) : List Instr :=
  dueWhen s.canStart .startup
  ++ dueWhen (!s.isHeld && decide (Config.sampleMs ≤ s.sampleElapsed)) (.supplySample s.battery)
  ++ dueWhen (s.keyDue && s.keyLine) .keyOnSettled
  ++ dueWhen (s.keyDue && !s.keyLine) .keyOffSettled
  ++ dueWhen (s.isRunning && decide (Config.lampStepMs ≤ s.lampElapsed)) .lampStep
  ++ dueWhen (s.isRunning && s.boundaryDue) .cycleBoundary
  ++ dueWhen (s.pacer.running && decide (16 * Config.slotMs ≤ s.pacer.elapsed)) .windowBegin
  ++ dueWhen (s.pacer.running && decide (s.pacer.nextSlot < 16)
      && decide (Config.slotMs * s.pacer.nextSlot ≤ s.pacer.elapsed)) .pacerSlot
  ++ dueWhen s.statusDue .statusExpiry
  ++ dueWhen s.drained .afterRunEnd
  ++ dueWhen (s.inAfterRun && !s.limitPassed && decide (Config.afterRunMs ≤ s.afterRunElapsed)) .afterRunLimit
  ++ dueWhen s.canBeginWrite .writeBegin
  ++ s.writeDue
  ++ dueWhen (s.store.state == .writing && decide (s.store.duration ≤ s.store.elapsed)) .storeWriteComplete
  ++ dueWhen (s.responder.waiting.isSome && s.responder.departed) .waitingFrameReoffer
  ++ dueWhen (s.responder.state == .sending && s.responder.waiting.isNone && s.responder.departed)
      .responsePartOffer
  ++ dueWhen s.responder.restartIsDue .serviceRestart
  ++ s.timersDue

/-- The event that happens next of those due, and the state with the choice drawn. Where several are due the
manual lets either come first, and the choice is free (R33, R122, R128, R140, R143, R144, R164, R174). -/
def State.nextDue (s : State) : Option (Instr × State) :=
  match s.due with
  | [] => none
  | [c] => some (c, s)
  | c :: cs =>
    some ((c :: cs).getD (s.free.draw.1 % (cs.length + 1)) c, { s with free := s.free.draw.2 })

end Sys2Proof.Machine
end

