-- ==== Sys2Proof/Machine/Dispatch.lean ====
section
/-! DEFINITION. The meaning of every command: one arm per constructor of `Instr`. -/

namespace Sys2Proof.Machine

def exec (i : Instr) (s : State) : Host.Outcome State Fault Refusal :=
  match i with
  | .frameReceived port frame => Sys2Proof.Machine.execFrameReceived port frame s
  | .receiveError port => Sys2Proof.Machine.execReceiveError port s
  | .lostArbitration port => Sys2Proof.Machine.execLostArbitration port s
  | .transmitSuccess port => Sys2Proof.Machine.execTransmitSuccess port s
  | .transmitError port => Sys2Proof.Machine.execTransmitError port s
  | .recoverySequence port => Sys2Proof.Machine.execRecoverySequence port s
  | .waitingFrameReoffer => Sys2Proof.Machine.execWaitingFrameReoffer s
  | .responsePartOffer => Sys2Proof.Machine.execResponsePartOffer s
  | .frameTimerExpiry entry => Sys2Proof.Machine.execFrameTimerExpiry entry s
  | .writeBegin => Sys2Proof.Machine.execWriteBegin s
  | .confirmWriteComplete => Sys2Proof.Machine.execConfirmWriteComplete s
  | .healWriteComplete => Sys2Proof.Machine.execHealWriteComplete s
  | .ageWriteComplete => Sys2Proof.Machine.execAgeWriteComplete s
  | .supplySample decivolts => Sys2Proof.Machine.execSupplySample decivolts s
  | .supplyEvaluation => Sys2Proof.Machine.execSupplyEvaluation s
  | .powerOn => Sys2Proof.Machine.execPowerOn s
  | .startup => Sys2Proof.Machine.execStartup s
  | .keyLevelChange on => Sys2Proof.Machine.execKeyLevelChange on s
  | .keyOnSettled => Sys2Proof.Machine.execKeyOnSettled s
  | .keyOffSettled => Sys2Proof.Machine.execKeyOffSettled s
  | .afterRunEnd => Sys2Proof.Machine.execAfterRunEnd s
  | .afterRunLimit => Sys2Proof.Machine.execAfterRunLimit s
  | .lampStep => Sys2Proof.Machine.execLampStep s
  | .cycleBoundary => Sys2Proof.Machine.execCycleBoundary s
  | .windowBegin => Sys2Proof.Machine.execWindowBegin s
  | .pacerSlot => Sys2Proof.Machine.execPacerSlot s
  | .statusExpiry => Sys2Proof.Machine.execStatusExpiry s
  | .crystalStop => Sys2Proof.Machine.execCrystalStop s
  | .storeWriteComplete => Sys2Proof.Machine.execStoreWriteComplete s
  | .readStatus page => Sys2Proof.Machine.execReadStatus page s
  | .readRecord slot => Sys2Proof.Machine.execReadRecord slot s
  | .readFrameState index => Sys2Proof.Machine.execReadFrameState index s
  | .readSignal index => Sys2Proof.Machine.execReadSignal index s
  | .readWatch index => Sys2Proof.Machine.execReadWatch index s
  | .readFaultState index => Sys2Proof.Machine.execReadFaultState index s
  | .readTable table index field => Sys2Proof.Machine.execReadTable table index field s
  | .writeTable table index field value => Sys2Proof.Machine.execWriteTable table index field value s
  | .revert => Sys2Proof.Machine.execRevert s
  | .clear scope code => Sys2Proof.Machine.execClear scope code s
  | .commit => Sys2Proof.Machine.execCommit s
  | .restart => Sys2Proof.Machine.execRestart s
  | .badRequest code => Sys2Proof.Machine.execBadRequest code s
  | .serviceRestart => Sys2Proof.Machine.execServiceRestart s
  | .supplyCollapse => Sys2Proof.Machine.execSupplyCollapse s

end Sys2Proof.Machine
end

