-- ==== Sys2Proof/Machine/Step.lean ====
section
/-! DEFINITION. One step: the command at the front of the queue, or, on an empty queue, what the module does of
itself; and the placing of a command for the host's question. -/

namespace Sys2Proof.Machine

/-- One step. The command at the front of the queue leaves it and is executed. On an empty queue an event that has
fallen due happens, and where none is due a millisecond of the Timebase passes (log entry 1). -/
def step (s : State) : Host.Outcome State Fault Refusal :=
  match s.pending with
  | c :: rest => exec c { s with pending := rest }
  | [] =>
    match s.nextDue with
    | some (c, t) => exec c t
    | none => .next s.tick

/-- The state with the command that a word spells at the front of its queue; the table gives no row any bits, so
no word spells one. -/
def State.withFetchWord (s : State) (nbits w : Nat) : State :=
  match decodeTableWord nbits w with
  | some c => { s with pending := c :: s.pending }
  | none => s

end Sys2Proof.Machine
end

