-- ==== Sys2Proof/Safety.lean ====
section
/-! DEFINITION. What a sound state of the module is, in the terms the statements use: the invariants that the
manual says its blocks keep, and the frame of an event that only reaches the pipeline. -/

namespace Sys2Proof.Machine

/-! ## The frame of a watch event -/

/-- `t` differs from `u` at most in what an event over the watches can reach: the watch records, the fault states
and ride flags, the two queues with what they lose, the lamps, and the free choices (R71, R74, R82, R86,
R88, R90). -/
def State.reachesPipelineOnly (u t : State) : Prop :=
  t = { u with
    watches := t.watches
    faults := t.faults
    retained :=
      { u.retained with
        rideFlags := t.retained.rideFlags
        flags := { u.retained.flags with deferredOverflow := t.retained.flags.deferredOverflow } }
    writeQueue := t.writeQueue
    reports := t.reports
    reportsDropped := t.reportsDropped
    engineLamp := t.engineLamp
    brakeLamp := t.brakeLamp
    free := t.free }

/-- `t` is `u` after one event over the watches that reaches the watches as `reach` says: the records and the samples
that `watchPass` gives (R71, R72, R74), the faults and ride flags those samples leave (R82), what they hand on taken
one by one in some order by the two queues (R86, R88), the lamps set to their new modes (R90, R125); nothing else
but the free choices. -/
def State.takesEvent (u : State) (reach : WatchEntry → Option Reach) (t : State) : Prop :=
  let xs := watchPass u.view u.working.watchList reach u.watches
  let d := takeSamples u.sampleContext (linkedSamples u.working.watchList xs) u.faults u.retained.rideFlags
  u.reachesPipelineOnly t
  ∧ t.watches = xs.map (·.record) ∧ t.faults = d.faults ∧ t.retained.rideFlags = d.flags
  ∧ (∃ handed : List Handed, handed.Perm d.handed
    ∧ handed.foldl HandedTo.take ⟨u.writeQueue, u.retained.flags, u.reports, u.reportsDropped⟩
      = ⟨t.writeQueue, t.retained.flags, t.reports, t.reportsDropped⟩)
  ∧ t.engineLamp = u.engineLamp.setMode u.working.settings (t.modeOf .engine)
  ∧ t.brakeLamp = u.brakeLamp.setMode u.working.settings (t.modeOf .brake)

/-- The event has been taken after `u` while RUNNING; in every other power state no event reaches the watches and `t`
is `u` (R61, R76). -/
def State.afterEvent (u : State) (reach : WatchEntry → Option Reach) (t : State) : Prop :=
  if u.power = .running then u.takesEvent reach t else t = u

/-! ## Standby (R17, R121, R147, R174) -/

/-- The state that the change from AFTER_RUN to STANDBY leaves (R17, R147, R149, R174). -/
def State.asleep (s : State) : State :=
  { s with
    power := .standby
    control := { s.control with state := .off, txErrors := 0, rxErrors := 0, recovery := 0, queue := [] }
    vehicle := { s.vehicle with state := .off, txErrors := 0, rxErrors := 0, recovery := 0, queue := [] }
    writeQueue := []
    reports := []
    reportsDropped := 0
    pacer := .stopped
    statusPeriod := none
    responder := .initial
    limitPassed := false }

/-- What follows when a write has ended: past the limit of AFTER_RUN, with no slot write and no store write in progress,
the change to STANDBY; else nothing (R121, R174). -/
def State.restedPastLimit (s : State) : State :=
  if s.power = .afterRun ∧ s.limitPassed = true ∧ s.write = none ∧ s.store.state ≠ .writing then s.asleep else s

/-! ## The tables (R78, R155) -/

/-- The fields of a Fault Table entry that the Debouncer's arithmetic rests on lie in their ranges (R78). -/
def FaultEntry.inRange (e : FaultEntry) : Prop := 1 ≤ e.threshold ∧ 1 ≤ e.upStep ∧ 1 ≤ e.downStep

/-- Every Fault Table entry of a copy of the tables lies in its ranges. -/
def Tables.faultsInRange (t : Tables) : Prop := ∀ e ∈ t.faults, e.inRange

/-- The working and staging tables and the store's copy hold Fault Table entries in their ranges. -/
def State.tablesInRange (s : State) : Prop :=
  s.working.faultsInRange ∧ s.staging.faultsInRange ∧ s.store.tables.faultsInRange

/-! ## Consistent tables (R10, R41, R59, R79, R159) -/

/-- What R159 asks of the Settings: four distinct identifiers, and a present speed signal below the signal count. -/
def Settings.sound (k : Settings) : Prop :=
  k.requestId ≠ k.responseId ∧ k.requestId ≠ k.statusId ∧ k.requestId ≠ k.reportId
  ∧ k.responseId ≠ k.statusId ∧ k.responseId ≠ k.reportId ∧ k.statusId ≠ k.reportId
  ∧ (k.speedPresent = true → k.speedSignal < k.signalCount)

/-- What R159 asks of the frame entry at an index: it comes after the entry before it (R10), its counter and checksum lie
in two bytes of the frame, its periods are in order, and a VEHICLE entry is no frame of the module's own. -/
def Tables.frameSound (t : Tables) (i : Nat) (e : FrameEntry) : Prop :=
  (∀ k d, i = k + 1 → t.frames[k]? = some d →
    (d.port = .control ∧ e.port = .vehicle) ∨ (d.port = e.port ∧ d.ident < e.ident))
  ∧ (e.counterPresent = true → e.counterByte < e.length)
  ∧ (e.checksumPresent = true → e.checksumByte < e.length)
  ∧ (e.counterPresent = true → e.checksumPresent = true → e.counterByte ≠ e.checksumByte)
  ∧ (e.timing = .periodic → e.minPeriod ≤ e.maxPeriod ∧ e.maxPeriod ≤ e.timeout)
  ∧ (e.port = .vehicle → e.ident ≠ t.settings.requestId ∧ e.ident ≠ t.settings.responseId
      ∧ e.ident ≠ t.settings.statusId ∧ e.ident ≠ t.settings.reportId)

/-- The number of bits that an entry's extraction takes (R43). -/
def SignalEntry.rawBits (e : SignalEntry) : Nat :=
  match e.extraction with
  | .bits => e.width
  | .byte => 8
  | .wordBE | .wordLE => 16

/-- The checks of R41: the entry fits the frame it names, and a present not-available raw value lies in the raw range
of R44. -/
def Tables.signalSound (t : Tables) (e : SignalEntry) : Prop :=
  (∃ f, entryAt t.settings.frameCount t.frames e.frameEntry = some f
    ∧ (e.extraction = .bits ∨ e.extraction = .byte → e.bytePos < f.length)
    ∧ (e.extraction = .wordBE ∨ e.extraction = .wordLE → e.bytePos + 1 < f.length ∧ e.bytePos ≤ 6))
  ∧ (e.extraction = .bits → e.bitOffset + e.width ≤ 8)
  ∧ (e.naPresent = true →
    (e.signed = false → 0 ≤ e.naRaw ∧ e.naRaw < 2 ^ e.rawBits)
    ∧ (e.signed = true → -2 ^ (e.rawBits - 1) ≤ e.naRaw ∧ e.naRaw < 2 ^ (e.rawBits - 1)))

/-- The checks of R59 of the watch entry at an index. -/
def Tables.watchSound (t : Tables) (i : Nat) (w : WatchEntry) : Prop :=
  (w.kind = .level ∨ w.kind = .pair → w.signalA < t.settings.signalCount)
  ∧ (w.kind = .pair → w.signalB < t.settings.signalCount)
  ∧ (w.kind = .timing ∨ w.kind = .integrity → w.frameEntry < t.settings.frameCount)
  ∧ (w.kind = .code →
    ∃ f, entryAt t.settings.frameCount t.frames w.frameEntry = some f ∧ 6 ≤ f.length)
  ∧ (w.kind = .level → w.comparison = .inside ∨ w.comparison = .outside → w.thresholdA ≤ w.thresholdB)
  ∧ (w.gatePresent = true → w.gateWatch ≠ i
    ∧ ∃ g, entryAt t.settings.watchCount t.watches w.gateWatch = some g ∧ g.gatePresent = false)
  ∧ (w.linkPresent = true → w.link < t.settings.faultCount
    ∧ ∀ j v, j ≠ i → entryAt t.settings.watchCount t.watches j = some v → v.linkPresent = true →
      v.link ≠ w.link)

/-- The checks of R79 of the fault entry at an index. -/
def Tables.faultSound (t : Tables) (i : Nat) (e : FaultEntry) : Prop :=
  e.code ≠ 0
  ∧ (∀ j d, j ≠ i → entryAt t.settings.faultCount t.faults j = some d → d.code ≠ e.code)
  ∧ ∀ k ∈ e.snapshots.take e.snapshotLength, k < t.settings.signalCount

/-- The entry of a table at an index, when its count brings one into use, breaks none of the table's checks (R159). The
Settings are index 0 of their table. -/
def Tables.entrySound (t : Tables) (n : TableName) (i : Nat) : Prop :=
  match n with
  | .settings => i = 0 → t.settings.sound
  | .frames => ∀ e, entryAt t.settings.frameCount t.frames i = some e → t.frameSound i e
  | .signals => ∀ e, entryAt t.settings.signalCount t.signals i = some e → t.signalSound e
  | .watches => ∀ w, entryAt t.settings.watchCount t.watches i = some w → t.watchSound i w
  | .faults => ∀ e, entryAt t.settings.faultCount t.faults i = some e → t.faultSound i e

/-- No entry of a copy of the tables breaks a check. -/
def Tables.sound (t : Tables) : Prop := ∀ n i, t.entrySound n i

/-- The working tables are consistent, and so are those of a store that is VALID or WRITING (R159 to R161). -/
def State.tablesSound (s : State) : Prop :=
  s.working.sound ∧ (s.store.state ≠ .invalid → s.store.tables.sound)

/-! ## Ports and transmit queues (R1 to R6, R15 to R17) -/

/-- One port: its counts lie in their ranges, its queue holds at most 8 frames and none while the port does not
take part in its bus, and its state is the one that its error counts give. -/
def PortRecord.sound (p : PortRecord) : Prop :=
  p.queue.length ≤ 8 ∧ p.txErrors ≤ 255 ∧ p.rxErrors ≤ 255 ∧ p.recovery ≤ 127
  ∧ p.forwardDrop ≤ 255 ∧ p.unknown ≤ 255
  ∧ (p.state = .off → p.queue = [] ∧ p.txErrors = 0 ∧ p.rxErrors = 0 ∧ p.recovery = 0)
  ∧ (p.state = .busOff → p.queue = [])
  ∧ (p.state = .errorActive → p.txErrors < 128 ∧ p.rxErrors < 128)
  ∧ (p.state = .errorPassive → 128 ≤ p.txErrors ∨ 128 ≤ p.rxErrors)

/-- Both ports are sound, and they are OFF exactly in STARTING and STANDBY (R16, R17). -/
def State.portsSound (s : State) : Prop :=
  s.control.sound ∧ s.vehicle.sound ∧ s.clashes ≤ 255
  ∧ ((s.power = .starting ∨ s.power = .standby) ↔ s.control.state = .off)
  ∧ ((s.power = .starting ∨ s.power = .standby) ↔ s.vehicle.state = .off)

/-! ## The record write queue and the report queue (R104, R134) -/

/-- An AGE entry lists at least one code (R104). -/
def WriteEntry.named : WriteEntry → Prop
  | .confirm _ => True
  | .heal _ _ => True
  | .age cs => cs ≠ []

/-- The record write queue holds at most 8 entries, each AGE entry with at least one code, and no entry in STARTING
and STANDBY (R104). -/
def State.writeQueueSound (s : State) : Prop :=
  s.writeQueue.length ≤ 8 ∧ (∀ x ∈ s.writeQueue, x.named)
  ∧ (s.power = .starting ∨ s.power = .standby → s.writeQueue = [] ∧ s.write = none)

/-- The report queue holds at most 16 entries, never two for one code, with severities descending (R134). -/
def reportsOrdered (q : List ReportEntry) : Prop :=
  q.length ≤ 16 ∧ (q.map (·.code)).Nodup ∧ q.Pairwise (fun a b => b.severity ≤ a.severity)

/-! ## Signals and frames (R52) -/

/-- A cache entry that stands for a value that its frame carries now: VALID or UNAVAILABLE (R52). -/
def CacheEntry.isCurrent (c : CacheEntry) : Bool := c.status == .valid || c.status == .unavailable

/-- The arrival state of a frame that is arriving: ON_TIME, EARLY or LATE (R52). -/
def ArrivalState.isArriving (a : ArrivalState) : Bool := a == .onTime || a == .early || a == .late

/-- Every VALID or UNAVAILABLE signal is drawn from an entry that is arriving; and while RUNNING every working
Frame Table entry has its record (R20, R52). -/
def State.signalsFollowFrames (s : State) : Prop :=
  (s.power = .running → s.monitor.length = s.working.frameList.length)
  ∧ ∀ x ∈ s.working.signalList.zip s.cache, x.2.isCurrent = true →
      ((s.monitor[x.1.frameEntry]?).any fun r => r.state.isArriving) = true

/-! ## Fault states (R81) -/

/-- The counter of a fault agrees with its state (R81). -/
def FaultState.agreesWith (f : FaultState) (e : FaultEntry) : Prop :=
  match f.state with
  | .notTested | .passed => f.counter = 0
  | .pending | .healing => 1 ≤ f.counter ∧ f.counter < e.threshold
  | .active => f.counter = e.threshold

/-- Every working fault's counter agrees with its state, and the tables lie in their ranges (R81). -/
def State.countersSound (s : State) : Prop :=
  s.tablesInRange ∧ ∀ x ∈ s.working.faultList.zip s.faults, x.2.agreesWith x.1

/-! ## Lamps (R123, R125, R131) -/

/-- Each lamp's mode is the one that R125 gives, no bulb check is in progress outside RUNNING, and the step
position is a step of the cycle. -/
def State.lampsSound (s : State) : Prop :=
  s.engineLamp.mode = s.modeOf .engine ∧ s.brakeLamp.mode = s.modeOf .brake ∧ s.stepPos < 16
  ∧ (s.power ≠ .running → s.engineLamp = .dark ∧ s.brakeLamp = .dark ∧ s.bulbCheck = none)

/-! ## Fault memory (R101, R102, R106, R108) -/

/-- The code that a slot holds: of its record, or of the entry being written (R101). -/
def Slot.codeOf : Slot → Option Nat
  | .empty => none
  | .writing c => some c
  | .active r => some r.code
  | .stored r => some r.code

/-- What R102 says of every record. -/
def Record.sound (r : Record) : Prop :=
  1 ≤ r.occurrences ∧ r.occurrences ≤ 255 ∧ (r.latestFrame.isSome = true → 2 ≤ r.occurrences)

/-- What R102 says of the record of a slot: an ACTIVE record has a clean-ride count of 0. -/
def Slot.sound : Slot → Prop
  | .empty => True
  | .writing _ => True
  | .active r => r.sound ∧ r.cleanRides = 0
  | .stored r => r.sound

/-- The write in progress concerns the head of the queue: its slot is WRITING the head's code, and the record it
continues is sound and holds that code (R106). -/
def State.writeAgrees (s : State) : Prop :=
  match s.write with
  | none => True
  | some w =>
    match s.writeQueue with
    | [] => False
    | head :: _ =>
      match head.headCode with
      | none => False
      | some c =>
        s.retained.slots[w.slot]? = some (.writing c)
        ∧ match w.base with
          | none => True
          | some r => r.sound ∧ r.code = c

/-- The fault memory while the retention mark stands: 32 slots, no two that are not EMPTY with one code (R108), at
most one WRITING and none once start-up has freed it but the one being written (R106, R120), and every record as
R102 says. -/
def State.memorySound (s : State) : Prop :=
  s.retained.mark = true →
    s.retained.slots.length = 32
    ∧ (s.retained.slots.filterMap Slot.codeOf).Nodup
    ∧ (s.retained.slots.filter Slot.isWriting).length ≤ 1
    ∧ ((s.power = .starting → s.stage = .waitKey) → s.write = none →
        s.retained.slots.any Slot.isWriting = false)
    ∧ s.writeAgrees
    ∧ ∀ x ∈ s.retained.slots, x.sound

/-! ## Service requests (R148, R150, R178) -/

/-- The command that a decoded request is: its row of spec/opcode_table.json. -/
def Request.command : Request → Instr
  | .readStatus page => .readStatus page
  | .readRecord slot => .readRecord slot
  | .readFrameState i => .readFrameState i
  | .readSignal i => .readSignal i
  | .readWatch i => .readWatch i
  | .readFaultState i => .readFaultState i
  | .readTable t i f => .readTable t i f
  | .writeTable t i f v => .writeTable t i f v
  | .revert => .revert
  | .clear scope code => .clear scope code
  | .commit => .commit
  | .restart => .restart
  | .badRequest code => .badRequest code

/-- The bytes of a request frame, by the layout of R178; a request that is none of the twelve has none. -/
def Request.frameBytes : Request → List Byte
  | .readStatus page => [0x01, page]
  | .readRecord slot => [0x02, slot]
  | .readFrameState i => [0x03, i]
  | .readSignal i => [0x04, i]
  | .readWatch i => [0x05, i]
  | .readFaultState i => [0x06, i]
  | .readTable t i f => [0x07, t, i, f]
  | .writeTable t i f v =>
    [0x08, t, i, f, v.extractLsb' 24 8, v.extractLsb' 16 8, v.extractLsb' 8 8, v.extractLsb' 0 8]
  | .revert => [0x09]
  | .clear scope code => [0x0A, scope, code.extractLsb' 8 8, code.extractLsb' 0 8]
  | .commit => [0x0B]
  | .restart => [0x0C]
  | .badRequest _ => []

/-- The responder is sound: while SENDING it holds a frozen copy and the next part is one of its parts, while IDLE it
holds none and the index is 0, and a part waits only while SENDING with a frame waiting (R149 to R151). -/
def Responder.sound (r : Responder) : Prop :=
  (r.state = .sending → ∃ c, r.copy = some c ∧ r.nextPart < c.partCount)
  ∧ (r.state = .idle → r.copy = none ∧ r.nextPart = 0)
  ∧ (r.partWaits = true → r.state = .sending ∧ r.waiting.isSome = true)

/-- A request is decoded and handled by its own rule: RUNNING or AFTER_RUN, no responder frame waiting, the
responder IDLE and no restart pending (R148, R150). -/
def State.takesRequests (s : State) : Prop :=
  (s.power = .running ∨ s.power = .afterRun) ∧ s.responder.waiting = none ∧ s.responder.state = .idle
  ∧ s.responder.restartPending = false

/-- The state after a single-frame answer with these data bytes has been offered (R148). -/
def State.answered (s : State) (data : List Byte) : State :=
  s.offerResponse ⟨ownFrame s.working.settings.responseId data, false⟩

/-! ## Received frames (R9, R14) -/

/-- The port after a frame has been received correctly: the receive error count falls by 1, and the state is the one
that the counts then give (R3). -/
def PortRecord.heard (p : PortRecord) : PortRecord :=
  { p with
    rxErrors := p.rxErrors - 1
    state := if 128 ≤ p.txErrors ∨ 128 ≤ p.rxErrors - 1 then .errorPassive else .errorActive }

/-- A port that receives: ERROR_ACTIVE or ERROR_PASSIVE (R1, R3). -/
def PortRecord.hears (p : PortRecord) : Prop := p.state = .errorActive ∨ p.state = .errorPassive

/-- `v` is `s` after a frame has been received on a port, before it is sorted: the port's record, and, where its state
changes, the event that announces the change (R1, R3, R68). -/
def State.hasHeard (s : State) (p : Port) (v : State) : Prop :=
  let u := s.setPort p (s.port p).heard
  ((u.port p).state = (s.port p).state → v = u)
  ∧ ((u.port p).state ≠ (s.port p).state → u.afterEvent (reachPort u.view p) v)

/-- The port after a frame routed across has been offered to its queue: an exact copy at the tail, or a drop and a
count (R14). -/
def PortRecord.routed (p : PortRecord) (f : CanFrame) : PortRecord :=
  if (p.state = .errorActive ∨ p.state = .errorPassive) ∧ p.queue.length < 8 then
    { p with queue := p.queue ++ [⟨{ f with len := min f.len 8 }, false⟩] }
  else { p with forwardDrop := min 255 (p.forwardDrop + 1) }

/-- The frame is a STANDARD DATA frame that is looked up in the Frame Table: it came on the control port, or it
carries none of the module's identifiers (R9, step 4). -/
def State.looksUp (s : State) (p : Port) (f : CanFrame) : Prop :=
  f.format = .standard ∧ f.kind = .data ∧ (p = .control ∨ f.ident ∉ s.working.settings.ownIds)

end Sys2Proof.Machine
end

