-- ==== Sys2Proof/Certificates/Slice0/Obligations.lean ====
section
/-! DEFINITION. The statements for the provers, each with the rules of the manual it rests on. Where a statement rests
on a choice of the model it says so and names the log entry. -/

open Sys2Proof Sys2Proof.Machine

/-! ## The step -/

/-- A step takes the command at the front of the queue and executes it on the rest. That commands wait in one queue,
first in, first out, is the model's choice (log entry 3). -/
def Obligations.StepRunsTheFrontCommand : Prop :=
  ∀ (c : Instr) (q : List Instr) (s : State),
    step { s with pending := c :: q } = exec c { s with pending := q }

/-- The model's choice (log entries 1 and 32): on an empty queue one of the events that have fallen due happens; where
none has, a millisecond passes, in which the ride clock rises by 1 in RUNNING and AFTER_RUN and saturates
(R172), and nothing but the counts of elapsed time changes. -/
def Obligations.EmptyQueueRunsADueEventOrAMillisecond : Prop :=
  ∀ s : State, s.pending = [] →
    (s.due ≠ [] → ∃ c ∈ s.due, ∃ f, step s = exec c { s with free := f })
    ∧ (s.due = [] → ∃ t, step s = .next t
      ∧ t.retained.rideClock =
          (if s.power = .running ∨ s.power = .afterRun then min 4294967295 (s.retained.rideClock + 1)
           else s.retained.rideClock)
      ∧ (∀ w, s.write = some w → ∃ k, t.write = some { w with elapsed := k })
      ∧ (s.write = none → t.write = none)
      ∧ t = { s with
          retained := { s.retained with rideClock := t.retained.rideClock }
          write := t.write
          store := { s.store with elapsed := t.store.elapsed }
          pacer := { s.pacer with elapsed := t.pacer.elapsed }
          sampleElapsed := t.sampleElapsed
          keyElapsed := t.keyElapsed
          lampElapsed := t.lampElapsed
          statusElapsed := t.statusElapsed
          afterRunElapsed := t.afterRunElapsed })

/-- Every command answers a next state. FRAME_RECEIVED with an operand that is no CAN frame changes nothing, since a port
receives a frame whole or not at all (R3): the model's choice (log entry 20; the data bytes of a REMOTE frame are log
entry 39). -/
def Obligations.EveryCommandCompletes : Prop :=
  ∀ (c : Instr) (s : State),
    (∃ t, exec c s = .next t) ∧ (c.wellFormed = false → exec c s = .next s)

/-- No command touches the queue of waiting commands, which is the model's own field (log entries 3 and 34). -/
def Obligations.CommandsLeaveTheQueueAlone : Prop :=
  ∀ (c : Instr) (s t : State), exec c s = .next t → t.pending = s.pending

/-! ## Ports (R3 to R6) -/

/-- RECEIVE_ERROR on a port in ERROR_ACTIVE or ERROR_PASSIVE (R3): the receive error count rises by 1 up to 255 and
the state follows the counts; a change of state is announced to the PORT watches of that port (R1, R68). -/
def Obligations.ReceiveErrorRaisesTheCount : Prop :=
  ∀ (p : Port) (s : State), (s.port p).state = .errorActive ∨ (s.port p).state = .errorPassive →
    ∃ t, exec (.receiveError p) s = .next t
      ∧ (let r := { s.port p with
          rxErrors := min 255 ((s.port p).rxErrors + 1)
          state := if 128 ≤ (s.port p).txErrors ∨ 128 ≤ min 255 ((s.port p).rxErrors + 1)
            then .errorPassive else .errorActive }
        let u := s.setPort p r
        (r.state = (s.port p).state → t = u)
        ∧ (r.state ≠ (s.port p).state → u.afterEvent (reachPort u.view p) t))

/-- TRANSMIT_SUCCESS on a port with a frame at the head of its queue (R4, R6): the head leaves, the transmit error
count falls by 1, and the state follows the counts, a change of state being announced (R1, R68). A departure from
the vehicle queue makes the responder's next offer fall due (R8, R150), and a pending restart when the queue is
empty and its OK frame does not wait outside (R162). -/
def Obligations.TransmitSuccessSendsTheHead : Prop :=
  ∀ (p : Port) (s : State) (f : TxFrame) (rest : List TxFrame),
    (s.port p).state = .errorActive ∨ (s.port p).state = .errorPassive → (s.port p).queue = f :: rest →
    ∃ t, exec (.transmitSuccess p) s = .next t
      ∧ (let r := { s.port p with
          queue := rest
          txErrors := (s.port p).txErrors - 1
          state := if 128 ≤ (s.port p).txErrors - 1 ∨ 128 ≤ (s.port p).rxErrors
            then .errorPassive else .errorActive }
        let sent := match p with
          | .control => s.responder
          | .vehicle => { s.responder with
              departed := s.responder.departed || s.responder.waiting.isSome || s.responder.state == .sending
              restartDue := s.responder.restartDue
                || (s.responder.restartPending && rest.isEmpty && !s.responder.waiting.any (·.restartOk)) }
        let u := { s.setPort p r with responder := sent }
        (r.state = (s.port p).state → t = u)
        ∧ (r.state ≠ (s.port p).state → u.afterEvent (reachPort u.view p) t))

/-- TRANSMIT_ERROR on a port with a frame at the head of its queue (R4, R5): the count rises by 8 and the frame stays;
or, where the count would pass 255, the port enters BUS_OFF, its frames leave the queue and are counted, and the
recovery count is 0. A change of state is announced (R1, R68). The emptying of the vehicle queue makes the
responder's next offer fall due (R8, R150) and abandons a restart whose OK frame stood in the queue (R162). -/
def Obligations.TransmitErrorRaisesTheCountOrEntersBusOff : Prop :=
  ∀ (p : Port) (s : State) (f : TxFrame) (rest : List TxFrame),
    (s.port p).state = .errorActive ∨ (s.port p).state = .errorPassive → (s.port p).queue = f :: rest →
    ∃ t, exec (.transmitError p) s = .next t
      ∧ (let r := if 255 < (s.port p).txErrors + 8 then
            { s.port p with
              state := .busOff
              queue := []
              forwardDrop := min 255 ((s.port p).forwardDrop + (rest.length + 1))
              recovery := 0 }
          else
            { s.port p with
              txErrors := (s.port p).txErrors + 8
              state := if 128 ≤ (s.port p).txErrors + 8 ∨ 128 ≤ (s.port p).rxErrors
                then .errorPassive else .errorActive }
        let lostOk := (f :: rest).any (·.restartOk)
        let emptied := if p = .vehicle ∧ 255 < s.vehicle.txErrors + 8 then
            { s.responder with
              departed := s.responder.departed || s.responder.waiting.isSome || s.responder.state == .sending
              restartPending := s.responder.restartPending && !lostOk
              restartDue := s.responder.restartDue && !lostOk }
          else s.responder
        let u := { s.setPort p r with responder := emptied }
        (r.state = (s.port p).state → t = u)
        ∧ (r.state ≠ (s.port p).state → u.afterEvent (reachPort u.view p) t))

/-- RECOVERY_SEQUENCE in BUS_OFF (R5): the recovery count rises by 1, and at 128 the port becomes ERROR_ACTIVE with
every count of R5 at 0, which is announced (R1, R68). LOST_ARBITRATION changes nothing (R4); and a port in OFF or
BUS_OFF receives nothing, sends nothing and detects no error (R1, R3). -/
def Obligations.OnlyRecoveryMovesAPortOffItsBus : Prop :=
  ∀ (p : Port) (s : State),
    exec (.lostArbitration p) s = .next s
    ∧ ((s.port p).state = .busOff → (s.port p).recovery + 1 < 128 → exec (.recoverySequence p) s =
      .next (s.setPort p { s.port p with recovery := (s.port p).recovery + 1 }))
    ∧ ((s.port p).state = .busOff → 128 ≤ (s.port p).recovery + 1 →
      ∃ t, exec (.recoverySequence p) s = .next t
        ∧ (let u := s.setPort p
            { s.port p with state := .errorActive, txErrors := 0, rxErrors := 0, recovery := 0 }
          u.afterEvent (reachPort u.view p) t))
    ∧ ((s.port p).state = .off ∨ (s.port p).state = .busOff →
      exec (.receiveError p) s = .next s ∧ exec (.transmitSuccess p) s = .next s
      ∧ exec (.transmitError p) s = .next s
      ∧ ∀ f : CanFrame, exec (.frameReceived p f) s = .next s)

/-! ## Received frames (R9 to R14) -/

/-- An unknown frame, an EXTENDED or REMOTE frame or a STANDARD DATA frame that no entry names, is counted on its port
and follows the default route of its direction (R9, R10, R13, R14, R15). Its reception lowers the receive error count,
and a change of the port's state is announced (R3, R68); nothing else changes. That the announcement comes before the
sorting, and that a REMOTE frame may have no data bytes at any length, are the model's choices (log entries 10 and
39). -/
def Obligations.UnknownFramesFollowTheDefaultRoute : Prop :=
  ∀ (p : Port) (f : CanFrame) (s : State), f.wellFormed = true → (s.port p).hears →
    (f.format = .extended ∨ f.kind = .remote ∨ (s.looksUp p f ∧ s.working.lookup p f.ident = none)) →
    ∃ v, s.hasHeard p v ∧ exec (.frameReceived p f) s =
      (let u := v.setPort p { (s.port p).heard with unknown := min 255 ((s.port p).unknown + 1) }
       match s.working.settings.defaultRoute p with
       | .drop => .next u
       | .forward => .next (u.setPort p.opposite ((s.port p.opposite).routed f)))

/-- A STANDARD DATA frame on the vehicle port with the status, report or response identifier is dropped and counted;
one with the request identifier is served as the request it carries, as the row of that request is (R9, R148;
that the same step serves it is the model's choice, log entry 8). The frame's reception lowers the receive error count,
and a change of the port's state is announced (R3, R68). That the request is served in the state which this
announcement has left is the model's choice: no rule orders the two (log entry 10). -/
def Obligations.ClashesAreCountedAndRequestFramesServed : Prop :=
  ∀ (f : CanFrame) (s : State), f.wellFormed = true → s.vehicle.hears →
    f.format = .standard → f.kind = .data →
    ∃ v, s.hasHeard .vehicle v
      ∧ (f.ident ≠ s.working.settings.requestId →
        (f.ident = s.working.settings.statusId ∨ f.ident = s.working.settings.reportId
          ∨ f.ident = s.working.settings.responseId) →
        exec (.frameReceived .vehicle f) s = .next { v with clashes := min 255 (s.clashes + 1) })
      ∧ (f.ident = s.working.settings.requestId →
        exec (.frameReceived .vehicle f) s = exec (decodeRequest f.data).command v)

/-- Known frames (R12, R14): in AFTER_RUN the route alone forwards or drops them. While RUNNING a known frame is an
arrival of its entry (R22, R26, R36, R42): its record is judged; a fresh one writes every signal drawn from the entry,
UNAVAILABLE with its value kept when the raw number is the not-available one and else VALID with the scaled value
(R45, R49), and sets the verified flag when it writes the speed signal VALID at or above the verify speed (R56); the
arrival reaches its watches (R64 to R67); the route and the verdict decide forwarding. The frame's reception lowers the
receive error count, and a change of the port's state is announced (R3, R68). The model's choices in this, which no
rule fixes: the watches of the written signals and the entry's other watches are evaluated in one event (log entry 9),
and the announcement comes before the frame is sorted (log entry 10). -/
def Obligations.KnownFramesAreMonitoredAndRouted : Prop :=
  ∀ (p : Port) (f : CanFrame) (s : State) (i : Nat) (e : FrameEntry),
    f.wellFormed = true → (s.port p).hears → s.looksUp p f →
    s.working.lookup p f.ident = some i → s.working.frames[i]? = some e →
    (s.power = .afterRun → exec (.frameReceived p f) s =
      (let u := s.setPort p (s.port p).heard
       match e.route with
       | .drop => .next u
       | .forward | .forwardIntact => .next (u.setPort p.opposite ((s.port p.opposite).routed f))))
    ∧ (s.power = .running → ∃ (v w : State) (cache : List CacheEntry) (verified : Bool), s.hasHeard p v
      ∧ (let j := judge e (s.recordOf i) f.data
        let fresh := j.verdict = .fresh
        let record := (s.recordOf i).afterArrival e s.degraded s.now j f.data
        let u := { v with
          monitor := s.monitor.set i record
          cache := cache
          retained := { v.retained with verified := verified } }
        cache.length = s.cache.length
        ∧ (∀ k c, s.cache[k]? = some c →
          (∀ g, fresh → entryAt s.working.settings.signalCount s.working.signals k = some g →
            g.frameEntry = i →
            (g.naPresent = true → g.raw f.data = g.naRaw →
              cache[k]? = some { c with status := .unavailable, update := some s.now })
            ∧ (g.naPresent = false ∨ g.raw f.data ≠ g.naRaw →
              cache[k]? = some ⟨g.scale (g.raw f.data), .valid, some s.now⟩))
          ∧ (¬ fresh ∨ s.working.drawnFrom i k = false → cache[k]? = some c))
        ∧ (verified = true ↔ s.retained.verified = true
          ∨ (fresh ∧ s.working.settings.speedPresent = true
            ∧ s.working.drawnFrom i s.working.settings.speedSignal = true
            ∧ ∃ c, cache[s.working.settings.speedSignal]? = some c ∧ c.status = .valid
              ∧ (s.working.settings.verifySpeed : Int) ≤ c.value))
        ∧ u.takesEvent (reachArrival u.view (s.working.drawnFrom i)
            ⟨i, decide fresh, j.defect, record.state, f.data⟩) w
        ∧ exec (.frameReceived p f) s = .next
          (if e.route = .forward ∨ (e.route = .forwardIntact ∧ fresh)
            then w.setPort p.opposite ((s.port p.opposite).routed f) else w)))

/-! ## The Frame Monitor (R20 to R35) -/

/-- The three tests of an arrival in their order (R23 to R26): length, checksum, rolling counter; a skip's lost amount
is (received - last - 1) mod 16, from 1 to 14. -/
def Obligations.ArrivalsAreJudgedInOrder : Prop :=
  ∀ (e : FrameEntry) (r : FrameRecord) (data : List Byte),
    (data.length ≠ e.length → judge e r data = ⟨.damaged, some .length, 0⟩)
    ∧ (data.length = e.length → e.checksumPresent = true →
        e.checksum data ≠ data.getD e.checksumByte 0 → judge e r data = ⟨.damaged, some .checksum, 0⟩)
    ∧ (data.length = e.length →
        (e.checksumPresent = true → e.checksum data = data.getD e.checksumByte 0) →
        (e.counterPresent = false → judge e r data = ⟨.fresh, none, 0⟩)
        ∧ (e.counterPresent = true → r.counter = none ∨ r.state = .missing →
            judge e r data = ⟨.fresh, none, 0⟩)
        ∧ (∀ last, e.counterPresent = true → r.counter = some last → last < 16 → r.state ≠ .missing →
            (e.counterOf data = (last + 1) % 16 → judge e r data = ⟨.fresh, none, 0⟩)
            ∧ (e.counterOf data = last → judge e r data = ⟨.repeated, some .repeated, 0⟩)
            ∧ (e.counterOf data ≠ (last + 1) % 16 → e.counterOf data ≠ last →
                ∃ lost : Nat, judge e r data = ⟨.fresh, some .skip, lost⟩
                  ∧ (lost : Int) = ((e.counterOf data : Int) - last - 1) % 16
                  ∧ 1 ≤ lost ∧ lost ≤ 14)))

/-- The checksum of R24 sees every change of one covered byte: two frames of one length that differ in one byte other
than the checksum byte have different checksums. -/
def Obligations.ChecksumSeesEveryChangedByte : Prop :=
  ∀ (e : FrameEntry) (a b : List Byte) (i : Nat), a.length = b.length → i < a.length →
    i ≠ e.checksumByte → (∀ k, k ≠ i → a[k]? = b[k]?) → a[i]? ≠ b[i]? →
    e.checksum a ≠ e.checksum b

/-- What an arrival does to its record (R26, R28 to R30, R34, R35): a damaged or repeated one raises its count alone; a
fresh one is classified, takes the arrival time and counter, restarts the timer and raises its counts. That a period
equal to the effective max is ON_TIME even where it equals the effective timeout too, the arrival taken before the
expiry, is the model's reading of R28; the closing words of R33 call such an arrival LATE (log entry 37). -/
def Obligations.RecordsFollowTheirArrivals : Prop :=
  ∀ (e : FrameEntry) (r : FrameRecord) (degraded : Bool) (now : Nat) (j : Judgement) (data : List Byte),
    (j.verdict = .damaged → r.afterArrival e degraded now j data =
      { r with damaged := min 65535 (r.damaged + 1) })
    ∧ (j.verdict = .repeated → r.afterArrival e degraded now j data =
      { r with repeated := min 65535 (r.repeated + 1) })
    ∧ (j.verdict = .fresh →
      ∃ c, r.afterArrival e degraded now j data =
          { r with
            state := c
            last := some now
            counter := if e.counterPresent then some (e.counterOf data) else none
            timer := match e.timing with
              | .event => none
              | .periodic =>
                some (min 4294967295 (now + if degraded then (e.timeout * 9 + 7) / 8 else e.timeout))
            fresh := min 65535 (r.fresh + 1)
            lost := min 65535 (r.lost + j.lost)
            early := min 65535 (r.early + if c = .early then 1 else 0)
            late := min 65535 (r.late + if c = .late then 1 else 0) }
        ∧ (e.timing = .event → c = .onTime)
        ∧ (e.timing = .periodic → r.state = .neverSeen → c = .onTime)
        ∧ (e.timing = .periodic → r.state = .missing → c = .late)
        ∧ (∀ before, e.timing = .periodic → r.state ≠ .neverSeen → r.state ≠ .missing →
            r.last = some before →
            (now - before < e.minPeriod → c = if degraded then .onTime else .early)
            ∧ (e.minPeriod ≤ now - before →
                now - before ≤ (if degraded then (e.maxPeriod * 9 + 7) / 8 else e.maxPeriod) → c = .onTime)
            ∧ (e.minPeriod ≤ now - before →
                (if degraded then (e.maxPeriod * 9 + 7) / 8 else e.maxPeriod) < now - before → c = .late)))

/-- FRAME_TIMER_EXPIRY at or after the expiry time of a running timer (R31, R32, R35): the entry becomes MISSING, the
timer stops, the missing count rises, every VALID or UNAVAILABLE signal drawn from the entry becomes STALE with its
value and update time kept, and the expiry reaches its watches (R64, R65). Before the expiry time nothing happens. That
the watches of the STALE signals and the entry's TIMING watches are evaluated in one event is the model's choice (log
entry 9). -/
def Obligations.TimerExpiryMakesTheEntryMissing : Prop :=
  ∀ (s : State) (i : Nat) (r : FrameRecord) (due : Nat), s.power = .running → s.monitor[i]? = some r →
    r.timer = some due →
    (s.now < due → exec (.frameTimerExpiry i) s = .next s)
    ∧ (due ≤ s.now → ∃ t, exec (.frameTimerExpiry i) s = .next t
      ∧ (let u := { s with
          monitor := s.monitor.set i
            { r with state := .missing, timer := none, missing := min 65535 (r.missing + 1) }
          cache := t.cache }
        let staled := fun k => s.working.drawnFrom i k
          && (s.cache[k]?).any fun c => c.status == .valid || c.status == .unavailable
        u.takesEvent (reachExpiry u.view staled i) t)
      ∧ t.cache.length = s.cache.length
      ∧ ∀ k c, s.cache[k]? = some c →
          t.cache[k]? = some
            (if s.working.drawnFrom i k = true ∧ (c.status = .valid ∨ c.status = .unavailable)
              then { c with status := .stale } else c))

/-! ## Signals (R43 to R52) -/

/-- The raw number (R43, R44): two's complement of the entry's width when it is signed, and in the raw range of its
extraction. -/
def Obligations.RawNumbersLieInTheirRange : Prop :=
  ∀ (e : SignalEntry) (data : List Byte), 1 ≤ e.width → e.width ≤ 8 →
    (let n := match e.extraction with | .bits => e.width | .byte => 8 | .wordBE | .wordLE => 16
     let u := e.rawUnsigned data
     (e.signed = true → 2 ^ (n - 1) ≤ u → e.raw data = (u : Int) - 2 ^ n)
     ∧ (e.signed = true → u < 2 ^ (n - 1) → e.raw data = u)
     ∧ (e.signed = false → e.raw data = u)
     ∧ (e.signed = false → 0 ≤ e.raw data ∧ e.raw data ≤ 2 ^ n - 1)
     ∧ (e.signed = true → -(2 ^ (n - 1) : Int) ≤ e.raw data ∧ e.raw data ≤ 2 ^ (n - 1) - 1)
     ∧ (e.extraction = .bits → e.width = 1 → e.signed = true → e.raw data = 0 ∨ e.raw data = -1)
     ∧ -32768 ≤ e.raw data ∧ e.raw data ≤ 65535)

/-- Scaling (R46): the product is exact and within the signed 32-bit range, and is divided by 2 to the power of the
shift with rounding towards minus infinity; the offset is then added and the sum held in the signed 32-bit range
(R47). -/
def Obligations.ScalingRoundsTowardsMinusInfinity : Prop :=
  ∀ (e : SignalEntry) (r : Int), -32768 ≤ r → r ≤ 65535 → -32768 ≤ e.gain → e.gain ≤ 32767 → e.shift ≤ 15 →
    ∃ q : Int,
      -2147450880 ≤ r * e.gain ∧ r * e.gain ≤ 2147450880
      ∧ q * 2 ^ e.shift ≤ r * e.gain ∧ r * e.gain < (q + 1) * 2 ^ e.shift
      ∧ (e.shift = 0 → q = r * e.gain) ∧ (e.gain = 0 → q = 0)
      ∧ (e.gain = 0 → -8388608 ≤ e.offset → e.offset ≤ 8388607 → e.scale r = e.offset)
      ∧ (2147483647 < q + e.offset → e.scale r = 2147483647)
      ∧ (q + e.offset < -2147483648 → e.scale r = -2147483648)
      ∧ (-2147483648 ≤ q + e.offset → q + e.offset ≤ 2147483647 → e.scale r = q + e.offset)

/-- A signal is VALID or UNAVAILABLE only while its source frame entry is ON_TIME, EARLY or LATE (R52): every command
keeps this in every state. -/
def Obligations.SignalsFollowTheirFrames : Prop :=
  ∀ (c : Instr) (s t : State), s.signalsFollowFrames → exec c s = .next t → t.signalsFollowFrames

/-! ## Watches (R60 to R76) -/

/-- Gates and the order of an event (R70 to R73). A gate is open when its gate watch's latest result is the one its
sense asks for. Where gates have one level (R59), an event leaves a watch without a gate as it reaches it, and a gated
watch that it reaches by the gate as the event has left it; a gated watch that it does not reach becomes UNTESTED
GATED when its gate closes, is evaluated at once or becomes NOT_YET when its gate opens, and else keeps its record. So
a watch whose gate is closed is UNTESTED after an event if it was so before. -/
def Obligations.ClosedGatesLeaveWatchesUntested : Prop :=
  (∀ (records : List WatchRecord) (w : WatchEntry),
    gateOpen records w = true ↔ w.gatePresent = false ∨
      ∃ g, records[w.gateWatch]? = some g
        ∧ ((w.gateSense = .whenHolds ∧ g.result = .holds) ∨ (w.gateSense = .whenClear ∧ g.result = .clear)))
  ∧ ∀ (v : WatchView) (table : List WatchEntry) (reach : WatchEntry → Option Reach) (before : List WatchRecord),
    table.length = before.length →
    (∀ (w g : WatchEntry) (i : Nat), table[i]? = some w → w.gatePresent = true →
      table[w.gateWatch]? = some g → g.gatePresent = false) →
    let after := (watchPass v table reach before).map (·.record)
    ((∀ (w : WatchEntry) (r : WatchRecord) (i : Nat), table[i]? = some w → before[i]? = some r →
        gateOpen before w = false → r.result = .untested) →
      ∀ (w : WatchEntry) (r : WatchRecord) (i : Nat), table[i]? = some w → after[i]? = some r →
        gateOpen after w = false → r.result = .untested)
    ∧ ∀ (i : Nat) (w : WatchEntry) (r : WatchRecord), table[i]? = some w → before[i]? = some r →
      ∃ x, (watchPass v table reach before)[i]? = some x
        ∧ (∀ a, reach w = some a → x = reachWatch v w (gateOpen after w) a)
        ∧ (reach w = none →
          (gateOpen before w = true → gateOpen after w = false →
            x = ⟨⟨.untested, some .gated, v.now⟩, none⟩)
          ∧ (gateOpen before w = false → gateOpen after w = true →
            (w.stateDriven = true → x = reachWatch v w true (.evaluate (v.stateTest w)))
            ∧ (w.stateDriven = false → x = ⟨⟨.untested, some .notYet, v.now⟩, none⟩))
          ∧ (gateOpen before w = gateOpen after w → x = ⟨r, none⟩))

/-- Samples and conditions (R61 to R69, R74). Whatever an event does, a watch sends FAIL only with the result HOLDS and
PASS only with the result CLEAR, set at the ride time of the event, and an UNTESTED record that the event made sends
none. An evaluation tests gate, supply, inputs and condition in that order; each kind has its condition, and each
event reaches the watches its kind names. That an arrival and the signals it writes, and an expiry and the signals it
turns STALE, are one event each is the model's choice (log entry 9). -/
def Obligations.SamplesAgreeWithResults : Prop :=
  (∀ (v : WatchView) (table : List WatchEntry) (reach : WatchEntry → Option Reach) (before : List WatchRecord)
    (i : Nat) (x : Evaluated), (watchPass v table reach before)[i]? = some x →
    (x.sample = some true → x.record = ⟨.holds, none, v.now⟩)
    ∧ (x.sample = some false → x.record = ⟨.clear, none, v.now⟩)
    ∧ (x.sample = none → before[i]? = some x.record
        ∨ (x.record.result = .untested ∧ x.record.reason.isSome = true ∧ x.record.time = v.now)))
  ∧ ∀ (v : WatchView) (w : WatchEntry),
    (let untested := fun r : Reason => (⟨⟨.untested, some r, v.now⟩, none⟩ : Evaluated)
     let suspended := w.needsNormal = true ∧ v.band ≠ .normal
     (∀ (open' : Bool) (r : Reason), reachWatch v w open' (.untested r) = untested r)
     ∧ (∀ test, reachWatch v w false (.evaluate test) = untested .gated)
     ∧ (∀ test, suspended → reachWatch v w true (.evaluate test) = untested .supply)
     ∧ (¬ suspended → reachWatch v w true (.evaluate none) = untested .input
       ∧ reachWatch v w true (.evaluate (some true)) = ⟨⟨.holds, none, v.now⟩, some true⟩
       ∧ reachWatch v w true (.evaluate (some false)) = ⟨⟨.clear, none, v.now⟩, some false⟩))
    ∧ (w.stateDriven = true ↔ w.kind = .level ∨ w.kind = .pair ∨ w.kind = .port ∨ w.kind = .supply)
    ∧ (w.kind = .level →
      ((∀ c, v.cache[w.signalA]? = some c → c.status ≠ .valid) → v.stateTest w = none)
      ∧ ∀ c, v.cache[w.signalA]? = some c → c.status = .valid → ∃ b, v.stateTest w = some b
        ∧ (b = true ↔ match w.comparison with
          | .above => w.thresholdA < c.value
          | .atOrAbove => w.thresholdA ≤ c.value
          | .below => c.value < w.thresholdA
          | .atOrBelow => c.value ≤ w.thresholdA
          | .equal => c.value = w.thresholdA
          | .notEqual => c.value ≠ w.thresholdA
          | .inside => w.thresholdA ≤ c.value ∧ c.value ≤ w.thresholdB
          | .outside => c.value < w.thresholdA ∨ w.thresholdB < c.value))
    ∧ (w.kind = .pair →
      ((∀ c, v.cache[w.signalA]? = some c → c.status ≠ .valid) → v.stateTest w = none)
      ∧ ((∀ c, v.cache[w.signalB]? = some c → c.status ≠ .valid) → v.stateTest w = none)
      ∧ ∀ a b m n, v.cache[w.signalA]? = some a → v.cache[w.signalB]? = some b →
        a.status = .valid → b.status = .valid → a.update = some m → b.update = some n →
        ((w.skew : Int) < |(m : Int) - n| → v.stateTest w = none)
        ∧ (|(m : Int) - n| ≤ w.skew →
          v.stateTest w = some (decide ((w.limit : Int) < |a.value - b.value|))))
    ∧ (w.kind = .port → v.stateTest w = some (match w.portCondition with
      | .busOff => v.portState w.port == .busOff
      | .passiveOrWorse => v.portState w.port == .errorPassive || v.portState w.port == .busOff))
    ∧ (w.kind = .supply → v.stateTest w = some (match w.supplyCondition with
      | .low => v.band == .low
      | .over => v.band == .over
      | .notNormal => v.band == .low || v.band == .over))
    ∧ (∀ (written : Nat → Bool) (a : ArrivalNotice),
      (w.kind = .level → reachArrival v written a w =
        if a.fresh = true ∧ written w.signalA = true then some (.evaluate (v.stateTest w)) else none)
      ∧ (w.kind = .pair → reachArrival v written a w =
        if a.fresh = true ∧ (written w.signalA = true ∨ written w.signalB = true)
          then some (.evaluate (v.stateTest w)) else none)
      ∧ (w.kind = .timing → reachArrival v written a w =
        if a.fresh = true ∧ w.frameEntry = a.entry then some (.evaluate (some (match w.timingCondition with
          | .missing => a.cls == .missing
          | .lateOrMissing => a.cls == .late || a.cls == .missing
          | .early => a.cls == .early))) else none)
      ∧ (w.kind = .integrity → w.frameEntry ≠ a.entry → reachArrival v written a w = none)
      ∧ (w.kind = .integrity → w.frameEntry = a.entry →
        (a.defect = none → reachArrival v written a w = some (.evaluate (some false)))
        ∧ ∀ d, a.defect = some d →
          (w.defectMask.has d = true → reachArrival v written a w = some (.evaluate (some true)))
          ∧ (w.defectMask.has d = false → reachArrival v written a w =
            if a.fresh = true then some (.evaluate (some false)) else none))
      ∧ (w.kind = .code → reachArrival v written a w =
        if a.fresh = true ∧ w.frameEntry = a.entry then some (.evaluate (some
          ([0, 2, 4].any fun k => byteAt a.data k * 256 + byteAt a.data (k + 1) == w.code))) else none)
      ∧ (w.kind = .port ∨ w.kind = .supply → reachArrival v written a w = none))
    ∧ (∀ (staled : Nat → Bool) (entry : Nat),
      (w.kind = .level → reachExpiry v staled entry w =
        if staled w.signalA = true then some (.evaluate (v.stateTest w)) else none)
      ∧ (w.kind = .pair → reachExpiry v staled entry w =
        if staled w.signalA = true ∨ staled w.signalB = true then some (.evaluate (v.stateTest w)) else none)
      ∧ (w.kind = .timing → reachExpiry v staled entry w =
        if w.frameEntry = entry then some (.evaluate (some (match w.timingCondition with
          | .missing | .lateOrMissing => true
          | .early => false))) else none)
      ∧ (w.kind = .integrity ∨ w.kind = .code ∨ w.kind = .port ∨ w.kind = .supply →
        reachExpiry v staled entry w = none))
    ∧ (∀ p, reachPort v p w =
        if w.kind = .port ∧ w.port = p then some (.evaluate (v.stateTest w)) else none)
    ∧ (reachInit v w = if w.kind = .port then some (.evaluate (v.stateTest w)) else none)
    ∧ (reachSupply v w = if w.kind = .supply then some (.evaluate (v.stateTest w)) else none)

/-! ## Faults (R81 to R93) -/

/-- A FAIL sample (R83), on a fault whose counter agrees with its state (R81): the counter rises by the up step, clamped
at the threshold and never left at 0; from NOT_TESTED, PASSED or PENDING it confirms at the threshold and is PENDING
below it; an ACTIVE fault stays as it is; a HEALING one returns to ACTIVE at the threshold without a confirmation;
an up step of at least the threshold confirms at once. A confirmation sets both ride flags and hands on one CONFIRM
entry, with a snapshot for each index of the snapshot list as the cache stands, and one CONFIRMED event (R82, R86,
R87); a FAIL that confirms nothing hands on nothing (R89). -/
def Obligations.FailSamplesRaiseTheCounter : Prop :=
  (∀ (e : FaultEntry) (verified : Bool) (f : FaultState), e.inRange → f.agreesWith e →
    (let c := min e.threshold (f.counter + e.upStep)
     let r := sampleFault e verified true f
     r.1.counter = c ∧ 1 ≤ c
     ∧ (f.state = .notTested ∨ f.state = .passed ∨ f.state = .pending →
        (c = e.threshold → r.1.state = .active ∧ r.2 = .confirmation)
        ∧ (c < e.threshold → r.1.state = .pending ∧ r.2 = .nothing))
     ∧ (f.state = .active → r = (f, .nothing))
     ∧ (f.state = .healing →
        (c = e.threshold → r.1.state = .active ∧ r.2 = .nothing)
        ∧ (c < e.threshold → r.1.state = .healing ∧ r.2 = .nothing))
     ∧ (e.threshold ≤ e.upStep → f.state = .notTested ∨ f.state = .passed ∨ f.state = .pending →
        r.2 = .confirmation)))
  ∧ ∀ (x : SampleContext) (d : Debounced) (i : Nat) (e : FaultEntry) (f : FaultState),
    entryAt x.tables.settings.faultCount x.tables.faults i = some e → d.faults[i]? = some f →
    (let r := sampleFault e x.verified true f
     let t := takeSample x d (i, true)
     let list := e.snapshots.take e.snapshotLength
     t.faults = d.faults.set i r.1
     ∧ (∀ k, k ≠ i → t.flags[k]? = d.flags[k]?)
     ∧ (r.2 = .confirmation →
       (∀ g, d.flags[i]? = some g → t.flags[i]? = some ⟨true, true⟩)
       ∧ ∃ snapshots : List Snapshot, t.handed = d.handed ++
           [⟨.confirm ⟨e.code, e.system, e.cls, e.severity, x.stamp, snapshots⟩,
             ⟨e.code, e.system, e.severity, .confirmed, false, x.stamp.time, x.stamp.time⟩⟩]
         ∧ snapshots.length = list.length
         ∧ ∀ (k n : Nat) (c : CacheEntry), list[k]? = some n → x.cache[n]? = some c →
           snapshots[k]? = some ⟨n, c.value, c.status⟩)
     ∧ (r.2 ≠ .confirmation →
       (∀ g, d.flags[i]? = some g → t.flags[i]? = some { g with tested := true }) ∧ t.handed = d.handed))

/-- A PASS sample that is taken (R84), of a fault that is not LATCHED and ACTIVE in an unverified ride (R85): the counter
falls by the down step, or to 0 when pass-resets is set, and is below the threshold; the state follows from the old
state and the new counter, with a heal when an ACTIVE or HEALING fault reaches 0. A heal hands on one HEAL entry and
one HEALED event; a PASS sets tested-this-ride alone of the ride flags, and one that heals nothing hands on nothing
(R82, R88). That the HEAL entry carries the ride time of the heal, as R172 has it, beside the code that R88 and R104
list is the model's reading (log entry 40). -/
def Obligations.PassSamplesLowerTheCounter : Prop :=
  (∀ (e : FaultEntry) (verified : Bool) (f : FaultState), e.inRange → f.agreesWith e →
    (e.cls = .selfHealing ∨ f.state ≠ .active ∨ verified = true) →
    (let c := if e.passResets then 0 else f.counter - e.downStep
     let r := sampleFault e verified false f
     r.1.counter = c ∧ c < e.threshold
     ∧ (f.state = .notTested ∨ f.state = .passed ∨ f.state = .pending →
        (c = 0 → r.1.state = .passed ∧ r.2 = .nothing)
        ∧ (1 ≤ c → r.1.state = .pending ∧ r.2 = .nothing))
     ∧ (f.state = .active ∨ f.state = .healing →
        (c = 0 → r.1.state = .passed ∧ r.2 = .heal)
        ∧ (1 ≤ c → r.1.state = .healing ∧ r.2 = .nothing))
     ∧ (f.state = .notTested ∨ f.state = .passed → r.1 = ⟨.passed, 0⟩ ∧ r.2 = .nothing)
     ∧ (e.passResets = true → f.state = .pending → r.1.state = .passed)
     ∧ (e.passResets = true → f.state = .active ∨ f.state = .healing → r.1.state = .passed ∧ r.2 = .heal)
     ∧ (e.threshold ≤ e.downStep → f.state = .active → r.1.state = .passed ∧ r.2 = .heal)))
  ∧ ∀ (x : SampleContext) (d : Debounced) (i : Nat) (e : FaultEntry) (f : FaultState),
    entryAt x.tables.settings.faultCount x.tables.faults i = some e → d.faults[i]? = some f →
    (let r := sampleFault e x.verified false f
     let t := takeSample x d (i, false)
     t.faults = d.faults.set i r.1
     ∧ (∀ k, k ≠ i → t.flags[k]? = d.flags[k]?)
     ∧ (∀ g, d.flags[i]? = some g → t.flags[i]? = some { g with tested := true })
     ∧ (r.2 = .heal → t.handed = d.handed ++
         [⟨.heal e.code x.stamp.time, ⟨e.code, e.system, e.severity, .healed, false, x.stamp.time, x.stamp.time⟩⟩])
     ∧ (r.2 ≠ .heal → t.handed = d.handed))

/-- A LATCHED fault in ACTIVE ignores each PASS while the verified flag is clear: its state and counter stay, no heal
follows, and tested-this-ride is set (R82, R85). -/
def Obligations.LatchedFaultsWaitForAVerifiedRide : Prop :=
  ∀ (x : SampleContext) (d : Debounced) (i : Nat) (e : FaultEntry) (f : FaultState),
    entryAt x.tables.settings.faultCount x.tables.faults i = some e → d.faults[i]? = some f →
    e.cls = .latched → f.state = .active → x.verified = false →
    (takeSample x d (i, false)).faults = d.faults
    ∧ (takeSample x d (i, false)).handed = d.handed
    ∧ (∀ r, d.flags[i]? = some r →
        (takeSample x d (i, false)).flags[i]? = some { r with tested := true })
    ∧ ∀ k, k ≠ i → (takeSample x d (i, false)).flags[k]? = d.flags[k]?

/-- The counter of a fault agrees with its state (R81): every command keeps this in every state whose tables lie in their
ranges, and derivation and CLEAR give such faults. With threshold 1 no such fault is PENDING or HEALING and each sample
takes it to ACTIVE or PASSED, and the counter of an ACTIVE fault is not 0. -/
def Obligations.CountersAgreeWithStates : Prop :=
  (∀ (c : Instr) (s t : State), s.countersSound → exec c s = .next t → t.countersSound)
  ∧ (∀ (e : FaultEntry) (slots : List Slot) (q : List WriteEntry),
      e.derive slots q = ⟨.notTested, 0⟩ ∨ e.derive slots q = ⟨.active, e.threshold⟩)
  ∧ (∀ (s : State) (scope : ClearScope) (i : Nat), scope.matchesIndex s.working i = true →
      i < s.faults.length → (s.acceptClear scope).faults[i]? = some ⟨.notTested, 0⟩)
  ∧ (∀ (e : FaultEntry) (f : FaultState), e.inRange → f.agreesWith e →
      (f.state = .active → f.counter ≠ 0)
      ∧ (e.threshold = 1 → f.state ≠ .pending ∧ f.state ≠ .healing
        ∧ ∀ verified fail, (sampleFault e verified fail f).1.state = .active
          ∨ (sampleFault e verified fail f).1.state = .passed))

/-- Derivation (R93): the most recently queued CONFIRM or HEAL entry of the code decides, and where the queue holds none a
slot in ACTIVE does. -/
def Obligations.DerivationFollowsQueueThenSlots : Prop :=
  ∀ (e : FaultEntry) (slots : List Slot) (a b : List WriteEntry),
    (∀ y ∈ b, (∀ z, y = .confirm z → z.code ≠ e.code) ∧ ∀ time, y ≠ .heal e.code time) →
    (∀ x : ConfirmEntry, x.code = e.code →
      e.derive slots (a ++ .confirm x :: b) = ⟨.active, e.threshold⟩)
    ∧ (∀ time, e.derive slots (a ++ .heal e.code time :: b) = ⟨.notTested, 0⟩)
    ∧ ((∃ r, Slot.active r ∈ slots ∧ r.code = e.code) → e.derive slots b = ⟨.active, e.threshold⟩)
    ∧ ((∀ r, Slot.active r ∈ slots → r.code ≠ e.code) → e.derive slots b = ⟨.notTested, 0⟩)

/-! ## Fault memory (R101 to R116) -/

/-- WRITE_BEGIN in RUNNING or AFTER_RUN, with no write in progress and the band not LOW (R106 to R108, R111 to R113):
the slot of the head becomes WRITING for at most 5 ms: for a CONFIRM the one that the search finds, for a HEAL one in
ACTIVE with its code, for an AGE one in STORED with its first code when a working fault holds that code (R115). Else the
head, or an AGE head's first code, needs no write and leaves, MEMORY_FULL being set for a CONFIRM without a slot. -/
def Obligations.WritesBeginWithTheHead : Prop :=
  ∀ (s : State) (rest : List WriteEntry), s.power = .running ∨ s.power = .afterRun → s.write = none →
    s.band ≠ .low →
    (∀ x : ConfirmEntry, s.writeQueue = .confirm x :: rest →
      (∀ i base, confirmSlot s.retained.slots x = some (i, base) →
        ∃ d f, d ≤ 5 ∧ exec .writeBegin s = .next { s with
          retained := { s.retained with slots := s.retained.slots.set i (.writing x.code) }
          write := some ⟨i, base, 0, d⟩
          free := f })
      ∧ (confirmSlot s.retained.slots x = none →
        exec .writeBegin s = .next { s with
          writeQueue := rest
          retained := { s.retained with flags := { s.retained.flags with memoryFull := true } } }))
    ∧ (∀ c time, s.writeQueue = .heal c time :: rest →
      ((∃ r, Slot.active r ∈ s.retained.slots ∧ r.code = c) →
        ∃ i r d f, s.retained.slots[i]? = some (.active r) ∧ r.code = c ∧ d ≤ 5
        ∧ exec .writeBegin s = .next { s with
          retained := { s.retained with slots := s.retained.slots.set i (.writing c) }
          write := some ⟨i, some r, 0, d⟩
          free := f })
      ∧ ((∀ r, Slot.active r ∈ s.retained.slots → r.code ≠ c) →
        exec .writeBegin s = .next { s with writeQueue := rest }))
    ∧ (∀ c cs, s.writeQueue = .age (c :: cs) :: rest →
      ((∃ r, Slot.stored r ∈ s.retained.slots ∧ r.code = c) → (∃ e ∈ s.working.faultList, e.code = c) →
        ∃ i r d f, s.retained.slots[i]? = some (.stored r) ∧ r.code = c ∧ d ≤ 5
        ∧ exec .writeBegin s = .next { s with
          retained := { s.retained with slots := s.retained.slots.set i (.writing c) }
          write := some ⟨i, some r, 0, d⟩
          free := f })
      ∧ ((∀ r, Slot.stored r ∈ s.retained.slots → r.code ≠ c) ∨ (∀ e ∈ s.working.faultList, e.code ≠ c) →
        exec .writeBegin s = .next { s with
          writeQueue := if cs = [] then rest else .age cs :: rest }))

/-- The search for a CONFIRM's slot (R108): the ACTIVE or STORED record of its code; else the lowest-numbered EMPTY slot;
else the STORED record of lowest severity, oldest last confirmation and lowest number; else the ACTIVE record of
strictly lower severity chosen in the same way; else none. -/
def Obligations.SlotSearchFollowsItsFourSteps : Prop :=
  ∀ (slots : List Slot) (x : ConfirmEntry),
    let has := fun (y : Slot) => ∃ r, (y = .active r ∨ y = .stored r) ∧ r.code = x.code
    let better := fun (a b : Record) => a.severity < b.severity ∨ (a.severity = b.severity ∧
      (a.last.ride < b.last.ride ∨ (a.last.ride = b.last.ride ∧ a.last.time < b.last.time)))
    ((∃ y ∈ slots, has y) →
      ∃ i r, confirmSlot slots x = some (i, some r) ∧ r.code = x.code
        ∧ (slots[i]? = some (.active r) ∨ slots[i]? = some (.stored r)))
    ∧ ((∀ y ∈ slots, ¬ has y) → .empty ∈ slots →
      ∃ i, confirmSlot slots x = some (i, none) ∧ slots[i]? = some .empty
        ∧ ∀ k, k < i → slots[k]? ≠ some .empty)
    ∧ ((∀ y ∈ slots, ¬ has y) → .empty ∉ slots → (∃ r, Slot.stored r ∈ slots) →
      ∃ i r, confirmSlot slots x = some (i, none) ∧ slots[i]? = some (.stored r)
        ∧ ∀ k q, slots[k]? = some (.stored q) → ¬ better q r ∧ (k < i → better r q))
    ∧ ((∀ y ∈ slots, ¬ has y) → .empty ∉ slots → (∀ r, Slot.stored r ∉ slots) →
      (∃ r, Slot.active r ∈ slots ∧ r.severity < x.severity) →
      ∃ i r, confirmSlot slots x = some (i, none) ∧ slots[i]? = some (.active r) ∧ r.severity < x.severity
        ∧ ∀ k q, slots[k]? = some (.active q) → q.severity < x.severity →
            ¬ better q r ∧ (k < i → better r q))
    ∧ ((∀ y ∈ slots, ¬ has y) → .empty ∉ slots → (∀ r, Slot.stored r ∉ slots) →
      (∀ r, Slot.active r ∈ slots → x.severity ≤ r.severity) → confirmSlot slots x = none)

/-- The three completions (R109, R110, R112 to R114): what the slot then holds, what leaves the queue, and the AGED event
of an erasure; past the limit of AFTER_RUN the change to STANDBY follows, unless a store write is in progress (R121,
R174). The aging limit is that of the working fault that holds the code; where none does the record stays (R114, R115). -/
def Obligations.WriteCompletionsFillTheSlot : Prop :=
  (∀ (t : Tables) (c : Nat),
    (∀ e, t.faultOf c = some e → e ∈ t.faultList ∧ e.code = c)
    ∧ ((∀ e ∈ t.faultList, e.code ≠ c) → t.faultOf c = none)
    ∧ ((∃ e ∈ t.faultList, e.code = c) → t.faultOf c ≠ none))
  ∧ ∀ (s : State) (i k d : Nat) (rest : List WriteEntry),
    (∀ x : ConfirmEntry, s.writeQueue = .confirm x :: rest →
      (s.write = some ⟨i, none, k, d⟩ → exec .confirmWriteComplete s = .next (State.restedPastLimit { s with
        write := none
        writeQueue := rest
        retained := { s.retained with slots := s.retained.slots.set i (.active
          { code := x.code, system := x.system, cls := x.cls, severity := x.severity, occurrences := 1,
            first := x.stamp, last := x.stamp, cleanRides := 0, firstFrame := x.snapshots,
            latestFrame := none }) } }))
      ∧ (∀ r, s.write = some ⟨i, some r, k, d⟩ →
        exec .confirmWriteComplete s = .next (State.restedPastLimit { s with
          write := none
          writeQueue := rest
          retained := { s.retained with slots := s.retained.slots.set i (.active
            { code := x.code, system := x.system, cls := x.cls, severity := x.severity,
              occurrences := min 255 (r.occurrences + 1), first := r.first, last := x.stamp, cleanRides := 0,
              firstFrame := r.firstFrame, latestFrame := some x.snapshots }) } })))
    ∧ (∀ c time r, s.writeQueue = .heal c time :: rest → s.write = some ⟨i, some r, k, d⟩ →
      exec .healWriteComplete s = .next (State.restedPastLimit { s with
        write := none
        writeQueue := rest
        retained := { s.retained with
          slots := s.retained.slots.set i (.stored { r with cleanRides := 0 }) } }))
    ∧ (∀ c cs r, s.writeQueue = .age (c :: cs) :: rest → s.write = some ⟨i, some r, k, d⟩ →
      (let a := { r with cleanRides := min 250 (r.cleanRides + 1) }
       let q := if cs = [] then rest else .age cs :: rest
       ((∀ e, s.working.faultOf r.code = some e → e.agingLimit = 0 ∨ a.cleanRides < e.agingLimit) →
        exec .ageWriteComplete s = .next (State.restedPastLimit { s with
          write := none
          writeQueue := q
          retained := { s.retained with slots := s.retained.slots.set i (.stored a) } }))
       ∧ (∀ e, s.working.faultOf r.code = some e → e.agingLimit ≠ 0 → e.agingLimit ≤ a.cleanRides →
        exec .ageWriteComplete s = .next (State.restedPastLimit { s with
          write := none
          writeQueue := q
          retained := { s.retained with slots := s.retained.slots.set i .empty }
          reports := (takeReport ⟨r.code, r.system, r.severity, .aged, false, s.now, s.now⟩ s.reports
            s.reportsDropped).1
          reportsDropped := (takeReport ⟨r.code, r.system, r.severity, .aged, false, s.now, s.now⟩ s.reports
            s.reportsDropped).2 }))))

/-- While the retention mark stands the fault memory stays sound (R102, R106, R108): no two slots that are not EMPTY hold
one code, at most one is WRITING, and every record is as R102 says. Every command keeps this. -/
def Obligations.FaultMemoryStaysSound : Prop :=
  ∀ (c : Instr) (s t : State), s.memorySound → exec c s = .next t → t.memorySound

/-! ## Invariants of the other kinds of state -/

/-- Both queues of the pipeline stay sound (R104, R134): at most 8 write entries and none in STANDBY, at most 16 reports,
never two for one code, with severities descending. Every command keeps this. What a confirmation or heal hands on
joins the tail of the write queue, or is lost with DEFERRED_OVERFLOW set when the queue holds 8 entries (R105), and
its report event is taken by the report queue. -/
def Obligations.PipelineQueuesStaySound : Prop :=
  (∀ (c : Instr) (s t : State), s.writeQueueSound → reportsOrdered s.reports → exec c s = .next t →
    t.writeQueueSound ∧ reportsOrdered t.reports)
  ∧ ∀ (q : HandedTo) (h : Handed),
    (q.writes.length < 8 → (q.take h).writes = q.writes ++ [h.write] ∧ (q.take h).flags = q.flags)
    ∧ (8 ≤ q.writes.length →
      (q.take h).writes = q.writes ∧ (q.take h).flags = { q.flags with deferredOverflow := true })
    ∧ (q.take h).reports = (takeReport h.report q.reports q.dropped).1
    ∧ (q.take h).dropped = (takeReport h.report q.reports q.dropped).2

/-- Both ports stay sound (R3 to R6, R15 to R17): at most 8 frames queued, counts in range, the state agreeing with the
error counts, and OFF exactly in STARTING and STANDBY. Every command keeps this. -/
def Obligations.PortsStaySound : Prop :=
  ∀ (c : Instr) (s t : State), s.portsSound → exec c s = .next t → t.portsSound

/-- Each lamp's mode is the one R125 gives, and outside RUNNING the lamps are dark (R125, R131). Every command keeps
this. The mode is the first of the four cases of R125, and the demand of a system is the highest lamp mode among its
working faults in ACTIVE and HEALING, OFF where there is none (R124). -/
def Obligations.LampModesStayAsTheDemandGives : Prop :=
  (∀ (c : Instr) (s t : State), s.lampsSound → exec c s = .next t → t.lampsSound)
  ∧ (∀ (s : State) (sys : FaultSystem), s.modeOf sys =
    (if s.power ≠ .running then .off
     else if s.configured = false ∨ s.bulbCheck.isSome = true then .steady
     else lampDemand s.working s.faults sys))
  ∧ ∀ (t : Tables) (faults : List FaultState) (sys : FaultSystem),
    let rank := fun (m : LampMode) => match m with
      | .off => 0
      | .steady => 1
      | .slow => 2
      | .fast => 3
    let demands := fun (e : FaultEntry) (f : FaultState) =>
      (e, f) ∈ t.faultList.zip faults ∧ e.system = sys ∧ (f.state = .active ∨ f.state = .healing)
    (∀ e f, demands e f → rank e.lampMode ≤ rank (lampDemand t faults sys))
    ∧ ((∃ e f, demands e f ∧ lampDemand t faults sys = e.lampMode)
      ∨ ((∀ e f, ¬ demands e f) ∧ lampDemand t faults sys = .off))

/-- The state after reset meets every invariant, its volatile state is as the manual gives it in STARTING (R16, R131,
R147, R149), and the module waits to start. That this reset is the first connection of a battery is the model's
choice (log entry 5). -/
def Obligations.ResetMeetsTheInvariants : Prop :=
  (let s := State.reset
   s.portsSound ∧ s.writeQueueSound ∧ reportsOrdered s.reports ∧ s.signalsFollowFrames ∧ s.countersSound
   ∧ s.lampsSound ∧ s.memorySound ∧ s.responder.sound ∧ s.tablesSound
   ∧ s.power = .starting ∧ s.control.state = .off ∧ s.vehicle.state = .off ∧ s.reportsDropped = 0
   ∧ s.pacer.running = false ∧ s.statusPeriod = none ∧ s.responder.state = .idle
   ∧ s.responder.restartPending = false ∧ s.lampLine .engine = false ∧ s.lampLine .brake = false
   ∧ s.pending = [])

/-- The ride number never decreases while retained memory holds, and does not exceed 65535 (R170). -/
def Obligations.RideNumberNeverDecreases : Prop :=
  ∀ (c : Instr) (s t : State), s.retained.mark = true → s.retained.rideNumber ≤ 65535 →
    exec c s = .next t → t.retained.mark = true →
    s.retained.rideNumber ≤ t.retained.rideNumber ∧ t.retained.rideNumber ≤ 65535

/-- The working tables change only at a COMMIT, as a request row or in a request frame on the vehicle port, and at a start
(R155, R156, R160, R161); no reset and no abort of a store write changes them (R158). Every command keeps them
consistent: no working entry breaks a check of R41, R59, R79 or R159, nor one of a store that is VALID or WRITING (R10,
R74). -/
def Obligations.WorkingTablesChangeAtCommitAndStartAndStayConsistent : Prop :=
  (∀ (c : Instr) (s t : State), exec c s = .next t → t.working ≠ s.working →
    c = .commit ∨ c = .startup ∨ ∃ f, c = .frameReceived .vehicle f ∧ decodeRequest f.data = .commit)
  ∧ ∀ (c : Instr) (s t : State), s.tablesSound → exec c s = .next t → t.tablesSound

/-! ## Lamps (R127 to R129) -/

/-- LAMP_STEP and CYCLE_BOUNDARY in RUNNING: the step position counts modulo 16; at the boundary that its return to 0
makes due, pending patterns become running, and the last boundary of a bulb check ends it with both lamps at
their modes at once (R127 to R129). A new mode makes its pattern pending, and the mode a lamp has already changes
nothing (R125, R128). That the boundary is taken by a command of its own, once due, is the model's choice (log
entry 27). -/
def Obligations.LampsFollowTheirCycle : Prop :=
  (∀ (l : Lamp) (k : Settings) (m : LampMode),
    (l.mode = m → l.setMode k m = l)
    ∧ (l.mode ≠ m → l.setMode k m = { l with
      mode := m
      pendingPattern := some (match m with
        | .off => 0x0000
        | .steady => 0xFFFF
        | .slow => k.slowPattern
        | .fast => k.fastPattern) }))
  ∧ ∀ s : State, s.power = .running →
    (s.stepPos < 16 → exec .lampStep s = .next { s with
      stepPos := (s.stepPos + 1) % 16
      boundaryDue := s.boundaryDue || s.stepPos == 15
      lampElapsed := 0 })
    ∧ (s.boundaryDue = true →
      (s.bulbCheck = none → exec .cycleBoundary s = .next { s with
        boundaryDue := false
        engineLamp := ⟨s.engineLamp.mode, s.engineLamp.pendingPattern.getD s.engineLamp.running, none⟩
        brakeLamp := ⟨s.brakeLamp.mode, s.brakeLamp.pendingPattern.getD s.brakeLamp.running, none⟩ })
      ∧ (∀ n, s.bulbCheck = some (n + 2) → exec .cycleBoundary s = .next { s with
        boundaryDue := false
        bulbCheck := some (n + 1)
        engineLamp := ⟨s.engineLamp.mode, s.engineLamp.pendingPattern.getD s.engineLamp.running, none⟩
        brakeLamp := ⟨s.brakeLamp.mode, s.brakeLamp.pendingPattern.getD s.brakeLamp.running, none⟩ })
      ∧ (s.bulbCheck = some 1 → exec .cycleBoundary s = .next
        (let mode := fun sys =>
          if s.configured = true then lampDemand s.working s.faults sys else LampMode.steady
         { s with
          boundaryDue := false
          bulbCheck := none
          engineLamp := ⟨mode .engine, s.working.settings.patternOf (mode .engine), none⟩
          brakeLamp := ⟨mode .brake, s.working.settings.patternOf (mode .brake), none⟩ })))

/-! ## Reports (R133 to R145, R177) -/

/-- An event taken by the Report Unit (R134 to R136): merged into the entry of its code, or placed behind every entry of
equal or higher severity, or, when the queue is full, in place of the last entry of the lowest severity, or
dropped. That the last entry of the queue is the most recently queued one of the lowest severity, which R136 names, is
read from the order of R134 (log entry 28). -/
def Obligations.ReportQueueTakesEvents : Prop :=
  ∀ (n : ReportEntry) (q : List ReportEntry) (d : Nat), reportsOrdered q → n.superseded = false →
    let placed := fun (old new : List ReportEntry) =>
      ∃ a b, old = a ++ b ∧ new = a ++ n :: b ∧ (∀ x ∈ a, n.severity ≤ x.severity)
        ∧ ∀ x ∈ b, x.severity < n.severity
    (∀ a e b, q = a ++ e :: b → e.code = n.code →
      takeReport n q d =
        (a ++ { e with event := n.event, eventTime := n.eventTime, superseded := true } :: b, d))
    ∧ ((∀ e ∈ q, e.code ≠ n.code) → q.length < 16 → placed q (takeReport n q d).1
        ∧ (takeReport n q d).2 = d)
    ∧ ((∀ e ∈ q, e.code ≠ n.code) → q.length = 16 → (∀ e ∈ q, n.severity ≤ e.severity) →
        takeReport n q d = (q, min 255 (d + 1)))
    ∧ ((∀ e ∈ q, e.code ≠ n.code) → q.length = 16 → (∃ e ∈ q, e.severity < n.severity) →
        ∃ l e, q = l ++ [e] ∧ (∀ x ∈ q, e.severity ≤ x.severity) ∧ placed l (takeReport n q d).1
          ∧ (takeReport n q d).2 = min 255 (d + 1))

/-- PACER_SLOT (R139, R141, R142): an open slot sends the head entry when the vehicle queue has room; a closed slot, an
empty report queue or a full transmit queue leaves all but the pacer as it is. The report carries the occurrences of the
ACTIVE or STORED record of its code, or 0 (R116). That PACER_SLOT begins the next slot of
the window whenever it is commanded, raising the time of the window to that slot's begin, is the model's choice (log
entries 2 and 29). -/
def Obligations.PacerSlotsSendTheHead : Prop :=
  ∀ s : State, s.pacer.running = true → s.pacer.nextSlot < 16 →
    (let u := { s with
      pacer := { s.pacer with
        nextSlot := s.pacer.nextSlot + 1
        elapsed := max s.pacer.elapsed (20 * s.pacer.nextSlot) } }
     let isOpen := s.pacer.nextSlot * s.pacer.rate / 16 < (s.pacer.nextSlot + 1) * s.pacer.rate / 16
     let room := (s.vehicle.state = .errorActive ∨ s.vehicle.state = .errorPassive) ∧ s.vehicle.queue.length < 8
     let recorded := fun (r : Record) => Slot.active r ∈ s.retained.slots ∨ Slot.stored r ∈ s.retained.slots
     (∀ e rest, s.reports = e :: rest → isOpen → room →
      ∃ n, ((∃ r, recorded r ∧ r.code = e.code ∧ n = r.occurrences)
          ∨ ((∀ r, recorded r → r.code ≠ e.code) ∧ n = 0))
        ∧ exec .pacerSlot s = .next { u with
          reports := rest
          vehicle := { s.vehicle with queue := s.vehicle.queue ++
            [⟨ownFrame s.working.settings.reportId (reportBytes e n), false⟩] } })
     ∧ (¬ isOpen ∨ s.reports = [] ∨ ¬ room → exec .pacerSlot s = .next u))

/-- Among the first n slots of a window at rate k, n * k / 16 rounded down are open (R139); so exactly k of the 16 are,
and slot 15 is. -/
def Obligations.OpenSlotsSpreadOverTheWindow : Prop :=
  ∀ k, k ≤ 16 →
    (∀ n, ((List.range n).filter (slotOpen k)).length = n * k / 16)
    ∧ ((List.range 16).filter (slotOpen k)).length = k
    ∧ (1 ≤ k → slotOpen k 15 = true)

/-- STATUS_EXPIRY (R144): with room in the vehicle queue a status frame of 7 bytes on the status identifier joins it, else
it is skipped; the timer restarts with the working status period. It carries for each system the number of its working
faults in ACTIVE and HEALING (R90), and the number of slots in ACTIVE and STORED (R116). -/
def Obligations.StatusTimerSendsAndRestarts : Prop :=
  ∀ s : State, s.statusPeriod.isSome = true →
    let count := fun (sys : FaultSystem) => ((s.working.faultList.zip s.faults).filter fun x =>
      x.1.system == sys && (x.2.state == .active || x.2.state == .healing)).length
    let records := (s.retained.slots.filter fun x => match x with
      | .active _ | .stored _ => true
      | .empty | .writing _ => false).length
    ((s.vehicle.state = .errorActive ∨ s.vehicle.state = .errorPassive) → s.vehicle.queue.length < 8 →
      ∃ f : CanFrame, f.ident = s.working.settings.statusId ∧ f.format = .standard ∧ f.kind = .data
        ∧ f.len = 7
        ∧ f.data = statusBytes s.engineLamp.mode s.brakeLamp.mode s.band
            (count .engine) (count .brake) records s.retained.flags (!s.configured) s.storeFailed s.degraded
            s.reportsDropped s.retained.restarts
        ∧ exec .statusExpiry s = .next { s with
            vehicle := { s.vehicle with queue := s.vehicle.queue ++ [⟨f, false⟩] }
            statusPeriod := some s.working.settings.statusPeriod
            statusElapsed := 0 })
    ∧ ((s.vehicle.state = .off ∨ s.vehicle.state = .busOff ∨ 8 ≤ s.vehicle.queue.length) →
      exec .statusExpiry s = .next { s with
        statusPeriod := some s.working.settings.statusPeriod
        statusElapsed := 0 })

/-- The layouts of R177 lose nothing: a report frame has 8 bytes and gives back every field of the entry and the count, a
status frame has 7 and gives back every one of its contents. -/
def Obligations.BroadcastLayoutsLoseNothing : Prop :=
  (∀ (a b : ReportEntry) (m n : Nat),
    a.code < 65536 → b.code < 65536 → 1 ≤ a.severity → a.severity ≤ 4 → 1 ≤ b.severity → b.severity ≤ 4 →
    a.eventTime < 4294967296 → b.eventTime < 4294967296 → m ≤ 255 → n ≤ 255 →
    (reportBytes a m).length = 8
    ∧ (reportBytes a m = reportBytes b n →
      a.code = b.code ∧ a.event = b.event ∧ a.superseded = b.superseded ∧ a.system = b.system
      ∧ a.severity = b.severity ∧ m = n ∧ a.eventTime = b.eventTime))
  ∧ (∀ (e e' l l' : LampMode) (s s' : Band) (x x' y y' z z' : Nat) (f f' : MemoryFlags)
      (u u' v v' w w' : Bool) (d d' r r' : Nat),
    x ≤ 64 → x' ≤ 64 → y ≤ 64 → y' ≤ 64 → z ≤ 32 → z' ≤ 32 → d ≤ 255 → d' ≤ 255 → r ≤ 255 → r' ≤ 255 →
    (statusBytes e l s x y z f u v w d r).length = 7
    ∧ (statusBytes e l s x y z f u v w d r = statusBytes e' l' s' x' y' z' f' u' v' w' d' r' →
      e = e' ∧ l = l' ∧ s = s' ∧ x = x' ∧ y = y' ∧ z = z' ∧ f = f' ∧ u = u' ∧ v = v' ∧ w = w' ∧ d = d'
      ∧ r = r'))

/-! ## Service requests (R148 to R162, R178, R179) -/

/-- The outcome of offering a responder frame (R6 to R8, R150): it joins at the tail, waits outside a full queue, or is
discarded in BUS_OFF with the response in progress. The frame is discarded in OFF as well, a state in which no run
offers one (R16, R17). That a discarded OK frame abandons its restart at the first offer too is the model's reading
(log entry 15; R162 names the frame that waits or stands in the queue), and partWaits is its mark of a waiting part (log
entry 34). -/
def Obligations.ResponderFramesJoinWaitOrAreDiscarded : Prop :=
  ∀ (s : State) (f : TxFrame),
    let live := s.vehicle.state = .errorActive ∨ s.vehicle.state = .errorPassive
    (live → s.vehicle.queue.length < 8 →
      s.offerResponse f = { s with vehicle := { s.vehicle with queue := s.vehicle.queue ++ [f] } })
    ∧ (live → 8 ≤ s.vehicle.queue.length →
      s.offerResponse f =
        { s with responder := { s.responder with waiting := some f, partWaits := false } })
    ∧ (s.vehicle.state = .busOff ∨ s.vehicle.state = .off →
      s.offerResponse f = { s with responder := { s.responder with
        state := .idle
        copy := none
        nextPart := 0
        departed := false
        partWaits := false
        restartPending := s.responder.restartPending && !f.restartOk
        restartDue := s.responder.restartDue && !f.restartOk } })

/-- READ_STATUS, READ_WATCH, READ_FAULT_STATE, READ_TABLE and BAD_REQUEST are answered in one frame, laid out as R178
gives, and change nothing but by its offer (R152, R154, R156). READ_STATUS is answered while the responder is SENDING
too, and page 0 shows it (R150, case 2). -/
def Obligations.SingleFrameReadsAnswerTheirContents : Prop :=
  ∀ s : State,
    (s.power = .running ∨ s.power = .afterRun → s.responder.waiting = none →
      s.responder.restartPending = false →
      exec (.readStatus 0) s = .next (s.answered [0x01, 0, 0, byteOf s.power.code,
        byteOf (s.retained.lastReset.code + 4 * s.store.state.code
          + 16 * (if s.responder.state = .sending then 1 else 0)),
        byteOf s.clashes, byteOf s.control.forwardDrop, byteOf s.vehicle.forwardDrop])
      ∧ exec (.readStatus 1) s = .next (s.answered [0x01, 0, 1, byteOf s.control.unknown,
        byteOf s.vehicle.unknown])
      ∧ ∀ page, page ≠ 0 → page ≠ 1 → exec (.readStatus page) s = .next (s.answered [0x01, 4]))
    ∧ (s.takesRequests →
      (∀ (i : Byte) w, i.toNat < s.working.settings.watchCount → s.watches[i.toNat]? = some w →
        exec (.readWatch i) s = .next (s.answered ([0x05, 0, byteOf w.result.code,
          byteOf (reasonCode w.reason)] ++ bytes32 w.time)))
      ∧ (∀ (i : Byte) f r, i.toNat < s.working.settings.faultCount → s.faults[i.toNat]? = some f →
        s.retained.rideFlags[i.toNat]? = some r →
        exec (.readFaultState i) s = .next (s.answered [0x06, 0, byteOf f.state.code, byteOf f.counter,
          byteOf (bit r.tested + 2 * bit r.confirmed)]))
      ∧ (∀ (t i f : Byte) name v, TableName.ofCode t.toNat = some name →
        s.staging.readField name i.toNat f.toNat = some v →
        exec (.readTable t i f) s = .next (s.answered ([0x07, 0, i, f] ++ bytesSigned v)))
      ∧ (∀ (t i f : Byte), (TableName.ofCode t.toNat = none ∨
          ∃ name, TableName.ofCode t.toNat = some name ∧ s.staging.readField name i.toNat f.toNat = none) →
        exec (.readTable t i f) s = .next (s.answered [0x07, 4]))
      ∧ (∀ code, exec (.badRequest code) s = .next (s.answered [code, 3])))

/-- READ_RECORD, READ_FRAME_STATE and READ_SIGNAL freeze a copy, become SENDING with next part 0 and offer part 0 (R149 to
R151, R153, R154): it joins and part 1 is next, or it waits outside a full queue and stays the next, or it is discarded
in BUS_OFF and the response ends (partWaits is the model's mark of a waiting part, log entry 34). An EMPTY or WRITING
slot is answered by its state in one frame. -/
def Obligations.MultiFrameReadsFreezeACopy : Prop :=
  ∀ s : State, s.takesRequests →
    let begun := fun (c : FrozenCopy) =>
      let r := { s.responder with
        state := .sending
        copy := some c
        departed := false }
      let f : TxFrame := ⟨ownFrame s.working.settings.responseId (c.part 0), false⟩
      if s.vehicle.state = .errorActive ∨ s.vehicle.state = .errorPassive then
        if s.vehicle.queue.length < 8 then
          { s with
            vehicle := { s.vehicle with queue := s.vehicle.queue ++ [f] }
            responder := { r with nextPart := 1, partWaits := false } }
        else { s with responder := { r with nextPart := 0, waiting := some f, partWaits := true } }
      else { s with responder := { r with
        state := .idle
        copy := none
        nextPart := 0
        partWaits := false } }
    (∀ (i : Byte) r, s.retained.slots[i.toNat]? = some (.active r) → i.toNat < 32 →
      exec (.readRecord i) s = .next (begun (.record false r)))
    ∧ (∀ (i : Byte) r, s.retained.slots[i.toNat]? = some (.stored r) → i.toNat < 32 →
      exec (.readRecord i) s = .next (begun (.record true r)))
    ∧ (∀ (i : Byte), s.retained.slots[i.toNat]? = some .empty → i.toNat < 32 →
      exec (.readRecord i) s = .next (s.answered [0x02, 0, 0x00]))
    ∧ (∀ (i : Byte) c, s.retained.slots[i.toNat]? = some (.writing c) → i.toNat < 32 →
      exec (.readRecord i) s = .next (s.answered [0x02, 0, 0x10]))
    ∧ (∀ (i : Byte) r, i.toNat < s.working.settings.frameCount → s.monitor[i.toNat]? = some r →
      exec (.readFrameState i) s = .next (begun (.frameState r)))
    ∧ (∀ (i : Byte) c, i.toNat < s.working.settings.signalCount → s.cache[i.toNat]? = some c →
      exec (.readSignal i) s = .next (begun (.signal c)))
    ∧ (∀ i : Byte, (32 ≤ i.toNat → exec (.readRecord i) s = .next (s.answered [0x02, 4]))
      ∧ (s.working.settings.frameCount ≤ i.toNat → exec (.readFrameState i) s = .next (s.answered [0x03, 4]))
      ∧ (s.working.settings.signalCount ≤ i.toNat → exec (.readSignal i) s = .next (s.answered [0x04, 4]))
      ∧ (s.working.settings.watchCount ≤ i.toNat → exec (.readWatch i) s = .next (s.answered [0x05, 4]))
      ∧ (s.working.settings.faultCount ≤ i.toNat →
        exec (.readFaultState i) s = .next (s.answered [0x06, 4])))

/-- Every part of a multi-frame response is 8 bytes long, carries its index in the low half of byte 2, and a response has 3
to 15 parts for a record, 5 for a frame state and 2 for a signal (R151, R178). -/
def Obligations.ResponsePartsAreEightBytes : Prop :=
  ∀ c : FrozenCopy,
    (∀ stored r, c = .record stored r → r.firstFrame.length ≤ 6 →
      (∀ l, r.latestFrame = some l → l.length ≤ 6) → 3 ≤ c.partCount ∧ c.partCount ≤ 15)
    ∧ (∀ r, c = .frameState r → c.partCount = 5) ∧ (∀ x, c = .signal x → c.partCount = 2)
    ∧ ∀ k, k < c.partCount → k < 16 →
        (c.part k).length = 8 ∧ ((c.part k).getD 2 0).toNat % 16 = k

/-- WAITING_FRAME_REOFFER at a departure (R8, R150): the frame joins, and when it is a part the next part comes next or
the response whose last part it is ends (R149, R151); it goes on waiting; or it is discarded. That the model tells a
waiting part from a waiting single frame by a field of its own is log entry 34. -/
def Obligations.WaitingFramesAreOfferedAgain : Prop :=
  ∀ (s : State) (f : TxFrame), s.responder.waiting = some f → s.responder.departed = true →
    let live := s.vehicle.state = .errorActive ∨ s.vehicle.state = .errorPassive
    let joined := { s.vehicle with queue := s.vehicle.queue ++ [f] }
    (live → s.vehicle.queue.length < 8 → s.responder.partWaits = false →
      exec .waitingFrameReoffer s = .next { s with
        vehicle := joined
        responder := { s.responder with waiting := none, departed := false } })
    ∧ (∀ c, live → s.vehicle.queue.length < 8 → s.responder.partWaits = true →
      s.responder.copy = some c → s.responder.nextPart + 1 < c.partCount →
      exec .waitingFrameReoffer s = .next { s with
        vehicle := joined
        responder := { s.responder with
          waiting := none, departed := false, partWaits := false, nextPart := s.responder.nextPart + 1 } })
    ∧ (∀ c, live → s.vehicle.queue.length < 8 → s.responder.partWaits = true →
      s.responder.copy = some c → c.partCount ≤ s.responder.nextPart + 1 →
      exec .waitingFrameReoffer s = .next { s with
        vehicle := joined
        responder := { s.responder with
          waiting := none, departed := false, partWaits := false, state := .idle, copy := none
          nextPart := 0 } })
    ∧ (live → 8 ≤ s.vehicle.queue.length →
      exec .waitingFrameReoffer s = .next { s with responder := { s.responder with departed := false } })
    ∧ (s.vehicle.state = .busOff →
      exec .waitingFrameReoffer s = .next { s with
        responder := { s.responder with
          waiting := none, departed := false, partWaits := false, state := .idle, copy := none
          nextPart := 0
          restartPending := s.responder.restartPending && !f.restartOk
          restartDue := s.responder.restartDue && !f.restartOk } })

/-- RESPONSE_PART_OFFER at a departure with no frame waiting (R150, R151): the next part joins and the part after it is
next, or the last one ends the response; or it waits outside a full queue and stays the next part; or it is discarded
in BUS_OFF and the response ends. Every command keeps this: while SENDING the next part index is below the number of
parts (at most 15), and while IDLE it is 0 (R149); a part waits only while SENDING (partWaits is the model's mark of it,
log entry 34). -/
def Obligations.ResponsePartsAreOfferedInOrder : Prop :=
  (∀ (s : State) (c : FrozenCopy), s.responder.copy = some c → s.responder.state = .sending →
    s.responder.waiting = none → s.responder.departed = true →
    let live := s.vehicle.state = .errorActive ∨ s.vehicle.state = .errorPassive
    let f : TxFrame := ⟨ownFrame s.working.settings.responseId (c.part s.responder.nextPart), false⟩
    let joined := { s.vehicle with queue := s.vehicle.queue ++ [f] }
    (live → s.vehicle.queue.length < 8 → s.responder.nextPart + 1 < c.partCount →
      exec .responsePartOffer s = .next { s with
        vehicle := joined
        responder := { s.responder with
          nextPart := s.responder.nextPart + 1, departed := false, partWaits := false } })
    ∧ (live → s.vehicle.queue.length < 8 → c.partCount ≤ s.responder.nextPart + 1 →
      exec .responsePartOffer s = .next { s with
        vehicle := joined
        responder := { s.responder with
          state := .idle, copy := none, nextPart := 0, departed := false, partWaits := false } })
    ∧ (live → 8 ≤ s.vehicle.queue.length →
      exec .responsePartOffer s = .next { s with
        responder := { s.responder with departed := false, waiting := some f, partWaits := true } })
    ∧ (s.vehicle.state = .busOff →
      exec .responsePartOffer s = .next { s with
        responder := { s.responder with
          state := .idle, copy := none, nextPart := 0, departed := false, partWaits := false } }))
  ∧ ∀ (c : Instr) (s t : State), s.responder.sound → exec c s = .next t → t.responder.sound

/-- WRITE_TABLE and REVERT edit staging and answer (R156): an accepted field is written, a refused one changes nothing, and
REVERT copies the working tables. -/
def Obligations.StagingRequestsEditStagingAlone : Prop :=
  ∀ s : State, s.takesRequests →
    (∀ (t i f : Byte) (v : BitVec 32) name tables, TableName.ofCode t.toNat = some name →
      s.staging.writeField name i.toNat f.toNat v.toInt = .ok tables →
      exec (.writeTable t i f v) s = .next (State.answered { s with staging := tables } [0x08, 0]))
    ∧ (∀ (t i f : Byte) (v : BitVec 32) name, TableName.ofCode t.toNat = some name →
      s.staging.writeField name i.toNat f.toNat v.toInt = .badValue →
      exec (.writeTable t i f v) s = .next (s.answered [0x08, 5]))
    ∧ (∀ (t i f : Byte) (v : BitVec 32), (TableName.ofCode t.toNat = none ∨
        ∃ name, TableName.ofCode t.toNat = some name
          ∧ s.staging.writeField name i.toNat f.toNat v.toInt = .noField) →
      exec (.writeTable t i f v) s = .next (s.answered [0x08, 4]))
    ∧ exec .revert s = .next (State.answered { s with staging := s.working } [0x09, 0])

/-- A field reads back as it was written, and every other field of every table reads as before (R156, R179). -/
def Obligations.WrittenFieldsReadBack : Prop :=
  ∀ (t u : Tables) (name : TableName) (i f : Nat) (v : Int), (∀ e ∈ t.faults, e.snapshots.length = 6) →
    t.writeField name i f v = .ok u →
    u.readField name i f = some v
    ∧ ∀ (name' : TableName) (i' f' : Nat), (name', i', f') ≠ (name, i, f) →
        u.readField name' i' f' = t.readField name' i' f'

/-- An accepted CLEAR (R97, R117, R118, R125, R137, R157): the matched faults, the selected slots and queue entries, and
the flags for ALL, in one step; both lamps are at the modes that R125 then gives, their running patterns kept and the
pattern of a changed mode pending (R128). ENGINE and BRAKE select the codes of working faults, of records and of queued
CONFIRM entries of their system (R117). -/
def Obligations.AcceptedClearsTakeEffectAtOnce : Prop :=
  (∀ (k : ClearScope) (t : Tables) (slots : List Slot) (q : List WriteEntry) (c : Nat),
    let named := fun (sys : FaultSystem) =>
      (∃ e ∈ t.faultList, e.system = sys ∧ e.code = c)
      ∨ (∃ r, (Slot.active r ∈ slots ∨ Slot.stored r ∈ slots) ∧ r.system = sys ∧ r.code = c)
      ∨ ∃ x, WriteEntry.confirm x ∈ q ∧ x.system = sys ∧ x.code = c
    k.selects t slots q c = true ↔ match k with
      | .all => True
      | .engine => named .engine
      | .brake => named .brake
      | .code d => c = d)
  ∧ (∀ (k : ClearScope) (t : Tables) (i : Nat), k.matchesIndex t i = true ↔
    ∃ e, entryAt t.settings.faultCount t.faults i = some e ∧ match k with
      | .all => True
      | .engine => e.system = .engine
      | .brake => e.system = .brake
      | .code d => e.code = d)
  ∧ (∀ (sel : Nat → Bool),
    (∀ x, WriteEntry.cleared sel (.confirm x) = if sel x.code then none else some (.confirm x))
    ∧ (∀ c time, WriteEntry.cleared sel (.heal c time) = if sel c then none else some (.heal c time))
    ∧ ∀ cs, WriteEntry.cleared sel (.age cs) =
      if cs.filter (fun c => !sel c) = [] then none else some (.age (cs.filter fun c => !sel c)))
  ∧ ∀ (s : State) (scope : Byte) (code : BitVec 16) (k : ClearScope), s.takesRequests →
    ((scope = 0 ∧ k = .all) ∨ (scope = 1 ∧ k = .engine) ∨ (scope = 2 ∧ k = .brake)
      ∨ (scope = 3 ∧ code ≠ 0 ∧ k = .code code.toNat)) →
    s.stationary = true → (∀ x ∈ s.retained.slots, x.isWriting = false) →
    ∃ t : State, exec (.clear scope code) s = .next (t.answered [0x0A, 0])
      ∧ (let sel := k.selects s.working s.retained.slots s.writeQueue
        let lamp := fun (l : Lamp) (m : LampMode) => { l with
          mode := m
          pendingPattern := if l.mode = m then l.pendingPattern else some (s.working.settings.patternOf m) }
        (∀ i f, s.faults[i]? = some f →
          t.faults[i]? = some (if k.matchesIndex s.working i = true then ⟨.notTested, 0⟩ else f))
        ∧ (∀ i f, s.retained.rideFlags[i]? = some f →
          t.retained.rideFlags[i]? = some (if k.matchesIndex s.working i = true then ⟨false, false⟩ else f))
        ∧ (∀ (i : Nat) (x : Slot), s.retained.slots[i]? = some x →
          (∀ c, x.codeOf = some c → sel c = true → t.retained.slots[i]? = some .empty)
          ∧ ((∀ c, x.codeOf = some c → sel c = false) → t.retained.slots[i]? = some x))
        ∧ t.retained.flags = (if k = .all then ⟨false, false, false, false⟩ else s.retained.flags)
        ∧ t.writeQueue = s.writeQueue.filterMap (WriteEntry.cleared sel)
        ∧ t.reports = s.reports.filter (fun e => !(sel e.code
            || (k == .engine && e.system == .engine) || (k == .brake && e.system == .brake)))
        ∧ (k = .all → t.writeQueue = [] ∧ t.reports = [])
        ∧ t.engineLamp = lamp s.engineLamp (t.modeOf .engine)
        ∧ t.brakeLamp = lamp s.brakeLamp (t.modeOf .brake)
        ∧ t = { s with
            faults := t.faults
            retained := { s.retained with
              slots := t.retained.slots
              flags := t.retained.flags
              rideFlags := t.retained.rideFlags }
            writeQueue := t.writeQueue
            reports := t.reports
            engineLamp := t.engineLamp
            brakeLamp := t.brakeLamp })

/-- An accepted COMMIT (R158 to R160): staging becomes working, the runtime state is initialised for it, the store write of
at most 300 ms begins, and the answer carries the new response identifier. Faults are derived and their ride flags
cleared (R91, R96), the watches are NOT_YET, or NOT_RUNNING in AFTER_RUN (R75), each lamp has its mode anew with a
changed pattern pending (R128, R132), and while RUNNING the PORT watches are then evaluated. That the store holds the
new tables from the begin of its write is the model's choice (log entry 24). -/
def Obligations.AcceptedCommitsInstallStaging : Prop :=
  ∀ s : State, s.takesRequests → s.stationary = true → s.band = .normal → s.store.state ≠ .writing →
    s.staging.inconsistency = none →
    ∃ (t : State) (d : Nat) (free : FreeSource), exec .commit s = .next (t.answered [0x0B, 0]) ∧ d ≤ 300
      ∧ (let old := s.working.settings
        let new := s.staging.settings
        let faults := s.staging.faultList.map (·.derive s.retained.slots s.writeQueue)
        let mode := fun sys =>
          if s.power = .running then
            (if s.bulbCheck.isSome = true then LampMode.steady else lampDemand s.staging faults sys)
          else .off
        let lamp := fun (l : Lamp) (m : LampMode) => { l with
          mode := m
          pendingPattern :=
            if l.mode ≠ m ∨ ((m = .slow ∨ m = .fast)
                ∧ ¬ (old.slowPattern = new.slowPattern ∧ old.fastPattern = new.fastPattern))
              then some (new.patternOf m) else l.pendingPattern }
        let u : State := { s with
          working := s.staging
          configured := true
          monitor := if s.power = .running then initialMonitor s.staging s.degraded s.now
            else s.staging.frameList.map fun _ => ⟨.neverSeen, none, none, none, 0, 0, 0, 0, 0, 0, 0⟩
          cache := s.staging.signalList.map fun _ => ⟨0, .neverSeen, none⟩
          watches := s.staging.watchList.map fun _ =>
            ⟨.untested, some (if s.power = .running then .notYet else .notRunning), s.now⟩
          faults := faults
          retained := { s.retained with
            rideFlags := clearFlagsBelow new.faultCount s.retained.rideFlags }
          pacer := { s.pacer with pendingRate :=
            if new.reportsPerWindow = old.reportsPerWindow
            then s.pacer.pendingRate else some new.reportsPerWindow }
          store := ⟨.writing, s.staging, 0, d⟩
          engineLamp := lamp s.engineLamp (mode .engine)
          brakeLamp := lamp s.brakeLamp (mode .brake)
          free := free }
        u.afterEvent (reachInit u.view) t)

/-- An accepted RESTART (R162): restart pending is set and the OK frame offered, and nothing else changes. -/
def Obligations.AcceptedRestartsWaitForTheQueue : Prop :=
  ∀ s : State, s.takesRequests → s.stationary = true → s.store.state ≠ .writing →
    exec .restart s = .next (State.offerResponse
      { s with responder := { s.responder with restartPending := true, restartDue := false } }
      ⟨ownFrame s.working.settings.responseId [0x0C, 0], true⟩)

/-- Refused requests (R148, R150, R157, R159, R162): discarded while a responder frame waits, answered BUSY while SENDING or
with a restart pending, or refused by the first condition that fails; they change nothing but by their answer.
Stationary holds while the module is UNCONFIGURED, names no speed signal, or has it VALID at 0 (R55, R161). Staging is
inconsistent at the first entry, in the order of the tables and of their indices, that breaks one of its table's checks
(R41, R59, R79, R159). -/
def Obligations.RefusedRequestsChangeNothingElse : Prop :=
  (∀ t : Tables,
    (t.inconsistency = none ↔ t.sound)
    ∧ ∀ (n : TableName) (i : Nat), t.inconsistency = some (n, i) ↔
      ¬ t.entrySound n i ∧ ∀ m j, m.code < n.code ∨ (m = n ∧ j < i) → t.entrySound m j)
  ∧ ∀ s : State,
    (s.stationary = true ↔ s.configured = false ∨ s.working.settings.speedPresent = false
      ∨ ∃ c, s.cache[s.working.settings.speedSignal]? = some c ∧ c.status = .valid ∧ c.value = 0)
    ∧ (s.power = .running ∨ s.power = .afterRun →
    (∀ q : Request, s.responder.waiting.isSome = true → exec q.command s = .next s)
    ∧ (∀ q : Request, s.responder.waiting = none →
      (s.responder.restartPending = true
        ∨ (s.responder.state = .sending ∧ ∀ page, q ≠ .readStatus page)) →
      exec q.command s = .next (s.answered [q.code, 1]))
    ∧ (s.takesRequests →
      (∀ scope code, clearScope scope code = none → exec (.clear scope code) s = .next (s.answered [0x0A, 5]))
      ∧ (∀ scope code, (clearScope scope code).isSome = true → s.stationary = false →
        exec (.clear scope code) s = .next (s.answered [0x0A, 2]))
      ∧ (∀ scope code, (clearScope scope code).isSome = true → s.stationary = true →
        (∃ x ∈ s.retained.slots, x.isWriting = true) →
        exec (.clear scope code) s = .next (s.answered [0x0A, 1]))
      ∧ (s.stationary = false → exec .commit s = .next (s.answered [0x0B, 2]))
      ∧ (s.stationary = true → s.band ≠ .normal → exec .commit s = .next (s.answered [0x0B, 7]))
      ∧ (s.stationary = true → s.band = .normal → s.store.state = .writing →
        exec .commit s = .next (s.answered [0x0B, 8]))
      ∧ (∀ t i, s.stationary = true → s.band = .normal → s.store.state ≠ .writing →
        s.staging.inconsistency = some (t, i) →
        exec .commit s = .next (s.answered [0x0B, 6, byteOf t.code, byteOf i]))
      ∧ (s.stationary = false → exec .restart s = .next (s.answered [0x0C, 2]))
      ∧ (s.stationary = true → s.store.state = .writing → exec .restart s = .next (s.answered [0x0C, 8]))))

/-- The request layout of R178 read back: the bytes of each of the twelve requests, with any further bytes behind them,
decode to that request. -/
def Obligations.RequestFramesDecodeToTheirRequests : Prop :=
  ∀ (q : Request) (extra : List Byte), (∀ code, q ≠ .badRequest code) →
    decodeRequest (q.frameBytes ++ extra) = q

/-! ## Supply, resets, rides and after-run (R163 to R176) -/

/-- SUPPLY_SAMPLE and SUPPLY_EVALUATION (R163, R164): the table of bands; what a sample that gives a band changes: it
aborts a store write when the band leaves NORMAL (R158), suspends or restores the watches that need normal supply
(R73), past the limit of AFTER_RUN lets an abort end it (R174), and as the tenth in RUNNING hands its band to every
SUPPLY watch (R69). SUPPLY_EVALUATION is that tenth sample at the recorded battery level, and does nothing at any
other moment (the model's choice, log entries 16 and 27). A sample of a module held in a reset records its level, but
resets it again below 6.0 V after a SERVICE_RESTART (R165; log entry 22; that reset is in ResetsLoseVolatileState). -/
def Obligations.SamplesSetTheBand : Prop :=
  (∀ (old : Band) (v : Nat),
    (v < 60 → nextBand old v = none)
    ∧ (60 ≤ v → v < 90 → nextBand old v = some .low)
    ∧ (90 ≤ v → v < 93 → nextBand old v = some (if old = .low then .low else .normal))
    ∧ (93 ≤ v → v ≤ 157 → nextBand old v = some .normal)
    ∧ (157 < v → v ≤ 160 → nextBand old v = some (if old = .over then .over else .normal))
    ∧ (160 < v → nextBand old v = some .over))
  ∧ (∀ (v : WatchView) (old : Band) (w : WatchEntry),
    (w.needsNormal = false → reachBand v old w = none)
    ∧ (w.needsNormal = true →
      (old = .normal → v.band ≠ .normal → reachBand v old w = some (.untested .supply))
      ∧ (old ≠ .normal → v.band ≠ .normal → reachBand v old w = none)
      ∧ (old ≠ .normal → v.band = .normal → reachBand v old w =
        some (if w.stateDriven = true then .evaluate (v.stateTest w) else .untested .notYet))))
  ∧ (∀ (s : State) (v : Nat) (b : Band), ¬ (s.power = .starting ∧ s.stage = .held) →
      nextBand s.band v = some b →
      ∃ x t, exec (.supplySample v) s = .next t
        ∧ (let aborts := s.store.state = .writing ∧ b ≠ .normal ∧ b ≠ s.band
          let u := { s with
            battery := v
            sampleElapsed := 0
            band := b
            store := if aborts then { s.store with state := .invalid } else s.store
            storeFailed := if aborts then true else s.storeFailed }
          (b = s.band → x = u)
          ∧ (b ≠ s.band → s.power = .running → u.takesEvent (reachBand u.view s.band) x)
          ∧ (b ≠ s.band → s.power ≠ .running → x = u.restedPastLimit))
        ∧ (s.power ≠ .running → t = x)
        ∧ (s.power = .running → s.sampleCount + 1 < 10 → t = { x with sampleCount := s.sampleCount + 1 })
        ∧ (s.power = .running → 10 ≤ s.sampleCount + 1 →
          State.takesEvent { x with sampleCount := 0 } (reachSupply x.view) t))
  ∧ (∀ s : State,
      (s.power = .running → 9 ≤ s.sampleCount →
        ∃ t, exec .supplyEvaluation s = .next t ∧ exec (.supplySample s.battery) s = .next t)
      ∧ (s.power ≠ .running ∨ s.sampleCount < 9 → exec .supplyEvaluation s = .next s))
  ∧ (∀ (s : State) (v : Nat), s.power = .starting → s.stage = .held →
      s.resetKind ≠ .serviceRestart ∨ 60 ≤ v →
      ∃ t, exec (.supplySample v) s = .next t
        ∧ t = { s with battery := v, sampleElapsed := 0, retained := t.retained, free := t.free }
        ∧ (30 ≤ v → t.retained = s.retained ∧ t.free = s.free) ∧ (v < 30 → t.retained.mark = false))

/-- Resets (R165, R166): a sample below 6.0 V, POWER_ON and an accepted RESTART that falls due bring the module to
STARTING with the kind of each, its volatile state lost, the store of an unfinished write INVALID, the working tables
kept, and with them whether the module is configured (R158, R161); retained memory is kept at and above 3.0 V. A module
that waits for 6.3 V keeps its kind through samples, and a SUPPLY_DIP reset keeps it through a new rise as well.
SUPPLY_COLLAPSE_BELOW_3V removes the retention mark. The model's choices in this: what a collapse leaves running (log
entries 16 and 23), the band held LOW until start-up (17), samples of a held module (22), the bit rates kept and
staging a copy of the working tables (30), the values of what R165 calls lost (33), and the restart taken with the
transmission of the queue's one frame (14). -/
def Obligations.ResetsLoseVolatileState : Prop :=
  let isReset := fun (s t : State) (kind : ResetKind) =>
    t = { State.reset with
      resetKind := kind
      battery := t.battery
      keyLine := s.keyLine
      crystalRuns := s.crystalRuns
      retained := t.retained
      store := { s.store with state := if s.store.state = .writing then .invalid else s.store.state }
      configured := s.configured
      working := s.working
      staging := s.working
      control := .fresh s.control.bitRate
      vehicle := .fresh s.vehicle.bitRate
      free := t.free
      pending := s.pending }
  (∀ (s : State) (v : Nat), v < 60 →
    ¬ (s.power = .starting ∧ s.stage = .held) ∨ s.resetKind = .serviceRestart →
    ∃ t, exec (.supplySample v) s = .next t ∧ isReset s t .supplyDip ∧ t.battery = v
      ∧ (30 ≤ v → t.retained = s.retained) ∧ (v < 30 → t.retained.mark = false))
  ∧ (∀ s : State, ¬ (s.power = .starting ∧ s.stage = .held ∧ s.resetKind = .supplyDip) →
    ∃ t, exec .powerOn s = .next t ∧ isReset s t .powerOn ∧ t.retained.mark = false)
  ∧ (∀ s : State, s.power = .starting → s.stage = .held → s.resetKind = .supplyDip →
    exec .powerOn s = .next s)
  ∧ (∀ s : State, s.responder.restartPending = true →
    (s.responder.restartDue = true
      ∨ ((s.vehicle.state = .errorActive ∨ s.vehicle.state = .errorPassive) ∧ s.vehicle.queue.length = 1
        ∧ s.responder.waiting = none)) →
    ∃ t, exec .serviceRestart s = .next t ∧ isReset s t .serviceRestart ∧ t.retained = s.retained
      ∧ t.battery = s.battery)
  ∧ (∀ s : State, s.responder.restartPending = false → exec .serviceRestart s = .next s)
  ∧ (∀ s : State, ∃ t, exec .supplyCollapse s = .next t ∧ t.retained.mark = false
    ∧ t = { s with battery := 0, retained := t.retained, free := t.free })

/-- STARTUP of a module held in a reset whose KEY line has not settled (R166, R167): the retention mark, the WRITING slots,
the store, the set-up of the blocks, then the wait for the KEY line. After key-on in STANDBY it leads, with the key
settled on and the ride closed, to a new ride. That the band is set from the recorded battery level, as the first
sample after the reset, and that the release is decided on that level, are the model's choices (log entries 16 and
17); so is that a first sample below 6.0 V resets the module again. -/
def Obligations.StartupPreparesTheModule : Prop :=
  (∀ (n : Nat) (flags : List RideFlags) (i : Nat),
    (clearFlagsFrom n flags)[i]? = (flags[i]?).map fun f => if n ≤ i then ⟨false, false⟩ else f)
  ∧ (∀ s : State, s.power = .starting → s.stage = .held → s.keySettled = none →
    ((s.resetKind = .serviceRestart ∧ 60 ≤ s.battery) ∨ 63 ≤ s.battery) →
    exec .startup s = .next
      (let tables := if s.store.state = .valid then s.store.tables else .default
       let slots := if s.retained.mark then s.retained.slots.map Slot.freed else List.replicate 32 .empty
       let flags : MemoryFlags := if s.retained.mark then
          { s.retained.flags with
            recordLost := s.retained.flags.recordLost || s.retained.slots.any Slot.isWriting }
        else ⟨true, false, false, false⟩
       let rideFlags := if s.retained.mark then s.retained.rideFlags
        else List.replicate 64 ⟨false, false⟩
       let clock := if s.retained.mark then s.retained.rideClock else 0
       { s with
        stage := .waitKey
        retained := {
          mark := true
          slots := slots
          flags := flags
          rideFlags := clearFlagsFrom
            (if s.store.state = .valid then tables.settings.faultCount else 0) rideFlags
          rideNumber := if s.retained.mark then s.retained.rideNumber else 0
          rideOpen := if s.retained.mark then s.retained.rideOpen else false
          rideClock := clock
          verified := if s.retained.mark then s.retained.verified else false
          restarts := if s.retained.mark then s.retained.restarts else 0
          lastReset := s.resetKind }
        band := (nextBand .low s.battery).getD .low
        working := tables
        staging := tables
        configured := decide (s.store.state = .valid)
        storeFailed := false
        control := .fresh tables.settings.controlRate
        vehicle := .fresh tables.settings.vehicleRate
        monitor := tables.frameList.map fun _ => .initial none
        cache := tables.signalList.map fun _ => ⟨0, .neverSeen, none⟩
        watches := tables.watchList.map fun _ => ⟨.untested, some .notRunning, clock⟩
        faults := tables.faultList.map (·.derive slots [])
        writeQueue := []
        write := none }))
  ∧ (∀ s : State, s.power = .starting → s.stage = .held → s.resetKind ≠ .serviceRestart → s.battery < 63 →
    exec .startup s = .next s)
  ∧ (∀ s : State, s.power = .starting → s.stage = .held → s.resetKind = .serviceRestart → s.battery < 60 →
    ∃ t, exec .startup s = .next t ∧ t.power = .starting ∧ t.stage = .held ∧ t.resetKind = .supplyDip
      ∧ t.retained = s.retained ∧ t.working = s.working ∧ t.configured = s.configured)
  ∧ (∀ s : State, s.power = .starting → s.stage = .keyOn → s.keySettled = some true →
      s.retained.mark = true → s.retained.rideOpen = false →
      ∃ t, exec .startup s = .next t ∧ t.power = .running
        ∧ t.retained.rideNumber = min 65535 (s.retained.rideNumber + 1) ∧ t.retained.rideClock = 0
        ∧ t.retained.lastReset = s.retained.lastReset ∧ t.timebase = s.timebase ∧ t.degraded = s.degraded
        ∧ t.control.state = .errorActive ∧ t.vehicle.state = .errorActive
        ∧ t.working = (if s.store.state = .valid then s.store.tables else .default) ∧ t.staging = t.working
        ∧ t.retained.slots = s.retained.slots.map Slot.freed ∧ t.store = s.store ∧ t.band = s.band
        ∧ t.battery = s.battery ∧ t.resetKind = s.resetKind)

/-- KEY_LEVEL_CHANGE starts the settling (R169); a settled key makes the ride decision of a start that waits for it
(R168), ends a ride (R173), starts a new ride from AFTER_RUN (R170, R174), and takes STANDBY to STARTING (R175). The
decision sets the Timebase: CRYSTAL when the crystal runs, else INTERNAL and degraded (R176; whether a crystal that
had stopped, in this STARTING too, runs again is free, log entry 18). A ride start sets what R170 lists for each
block: ride flags, derived faults, watch records, counts and lamps (R15, R75, R91, R94, R129, R130, R136), and then
evaluates the PORT watches; a ride end hands on the AGE entry of the codes tested and not confirmed, in ascending order
of index, at a start too (R92). Each frame record then has its initial values, with the start grace in a PERIODIC
entry's timer (R21). That key-on in AFTER_RUN sets the five counts of R15 to 0, where R17 keeps the counts, is the model's reading
(log entry 35). -/
def Obligations.SettledKeyOpensAndClosesRides : Prop :=
  let decided := fun (s : State) (runs : Bool) (free : FreeSource) (on : Bool) =>
    { s with
      keySettled := some on
      timebase := if runs = true then .crystal else .internal
      degraded := !runs
      crystalRuns := runs
      free := free }
  let joined := fun (s : State) =>
    { s with
      control := { s.control with state := .errorActive }
      vehicle := { s.vehicle with state := .errorActive }
      pacer :=
        { running := true
          nextSlot := 0
          elapsed := 0
          rate := s.working.settings.reportsPerWindow
          pendingRate := none }
      statusPeriod := some s.working.settings.statusPeriod
      statusElapsed := 0 }
  let riding := fun (s : State) (r : Retained) (bulb : Option Nat) =>
    let faults := s.working.faultList.map (·.derive r.slots s.writeQueue)
    let mode := fun sys =>
      if s.configured = true ∧ bulb = none then lampDemand s.working faults sys else LampMode.steady
    { s with
      power := .running
      stage := .done
      retained := r
      control := { s.control with forwardDrop := 0, unknown := 0 }
      vehicle := { s.vehicle with forwardDrop := 0, unknown := 0 }
      clashes := 0
      monitor := initialMonitor s.working s.degraded r.rideClock
      cache := s.working.signalList.map fun _ => ⟨0, .neverSeen, none⟩
      watches := s.working.watchList.map fun _ => ⟨.untested, some .notYet, r.rideClock⟩
      faults := faults
      reportsDropped := 0
      sampleCount := 0
      engineLamp := ⟨mode .engine, s.working.settings.patternOf (mode .engine), none⟩
      brakeLamp := ⟨mode .brake, s.working.settings.patternOf (mode .brake), none⟩
      stepPos := 0
      boundaryDue := false
      bulbCheck := bulb
      limitPassed := false
      lampElapsed := 0 }
  let newRide := fun (s : State) =>
    riding s
      { s.retained with
        rideNumber := min 65535 (s.retained.rideNumber + 1)
        rideClock := 0
        rideOpen := true
        verified := false
        restarts := 0
        rideFlags := clearFlagsBelow s.working.settings.faultCount s.retained.rideFlags }
      (if s.working.settings.bulbCheck = 0 then none else some ((s.working.settings.bulbCheck + 1999) / 2000))
  let resumed := fun (s : State) =>
    riding s { s.retained with restarts := min 255 (s.retained.restarts + 1) } none
  let ended := fun (s : State) =>
    let codes := agingList s.working s.retained.rideFlags
    let joins := codes ≠ [] ∧ s.writeQueue.length < 8
    let lost := codes ≠ [] ∧ 8 ≤ s.writeQueue.length
    { s with
      power := .afterRun
      stage := .done
      retained := { s.retained with
        rideOpen := false
        flags := { s.retained.flags with
          deferredOverflow := if lost then true else s.retained.flags.deferredOverflow } }
      writeQueue := if joins then s.writeQueue ++ [.age codes] else s.writeQueue
      monitor := s.monitor.map fun r => { r with timer := none }
      watches := s.working.watchList.map fun _ => ⟨.untested, some .notRunning, s.now⟩
      engineLamp := ⟨.off, 0, none⟩
      brakeLamp := ⟨.off, 0, none⟩
      boundaryDue := false
      bulbCheck := none
      limitPassed := false
      afterRunElapsed := 0 }
  let starts := fun (u t : State) => u.takesEvent (reachInit u.view) t
  (∀ (t : Tables) (flags : List RideFlags), agingList t flags =
    (t.faultList.zip flags).filterMap fun x =>
      if x.2.tested = true ∧ x.2.confirmed = false then some x.1.code else none)
  ∧ (∀ (n : Nat) (flags : List RideFlags) (i : Nat),
    (clearFlagsBelow n flags)[i]? = (flags[i]?).map fun f => if i < n then ⟨false, false⟩ else f)
  ∧ (∀ (t : Tables) (degraded : Bool) (now : Nat), initialMonitor t degraded now = t.frameList.map fun e =>
    ⟨.neverSeen, none, none,
      match e.timing with
      | .event => none
      | .periodic => some (min 4294967295 (now + t.settings.startGrace
          + if degraded then (e.timeout * 9 + 7) / 8 else e.timeout)),
      0, 0, 0, 0, 0, 0, 0⟩)
  ∧ (∀ (s : State) (on : Bool), s.keyLine ≠ on →
    exec (.keyLevelChange on) s = .next { s with keyLine := on, keyElapsed := 0 })
  ∧ (∀ s : State, s.power = .starting → s.stage = .waitKey →
    ∃ (runs : Bool) (free : FreeSource), (s.crystalRuns = true → runs = true ∧ free = s.free)
      ∧ (s.keyLine = true → s.retained.rideOpen = true →
        ∃ t, exec .keyOnSettled s = .next t ∧ starts (resumed (joined (decided s runs free true))) t)
      ∧ (s.keyLine = true → s.retained.rideOpen = false →
        ∃ t, exec .keyOnSettled s = .next t ∧ starts (newRide (joined (decided s runs free true))) t)
      ∧ (s.keyLine = false → s.retained.rideOpen = true →
        exec .keyOffSettled s = .next (ended (joined (decided s runs free false))))
      ∧ (s.keyLine = false → s.retained.rideOpen = false →
        exec .keyOffSettled s = .next { decided s runs free false with power := .standby, stage := .done }))
  ∧ (∀ s : State, s.power = .running → s.keyLine = false →
    exec .keyOffSettled s = .next (ended { s with keySettled := some false }))
  ∧ (∀ s : State, s.power = .afterRun → s.keyLine = true → ∃ t, exec .keyOnSettled s = .next t
      ∧ starts (newRide { s with keySettled := some true }) t)
  ∧ (∀ s : State, s.power = .standby → s.keyLine = true → ∃ t, exec .keyOnSettled s = .next t
      ∧ t.power = .starting ∧ t.stage = .keyOn ∧ t.keySettled = some true
      ∧ t.retained = s.retained ∧ t.band = s.band ∧ t.degraded = s.degraded ∧ t.timebase = s.timebase
      ∧ t.store = s.store ∧ t.working = s.working ∧ t.staging = s.staging ∧ t.battery = s.battery
      ∧ t.control = .fresh s.control.bitRate ∧ t.vehicle = .fresh s.vehicle.bitRate
      ∧ t.responder = .initial ∧ t.pacer = .stopped ∧ t.statusPeriod = none)

/-- The end of AFTER_RUN (R17, R121, R147, R174): when everything has drained the module enters STANDBY; at the limit what
has not begun is discarded, DEFERRED_OVERFLOW is set if an entry is discarded and else kept, and STANDBY follows at once
unless a slot write or a store write is in progress; then it follows the later of their ends, as the completions and the
sample that aborts a store write say (WriteCompletionsFillTheSlot, WindowCrystalAndStoreEventsActAlone, SamplesSetTheBand).
Whether the further codes of an AGE entry being written, discarded alone, set the flag is free (log entry 12). -/
def Obligations.AfterRunEndsDrainedOrAtItsLimit : Prop :=
  (∀ s : State,
    s.asleep = { s with
      power := .standby
      control := { s.control with state := .off, txErrors := 0, rxErrors := 0, recovery := 0, queue := [] }
      vehicle := { s.vehicle with state := .off, txErrors := 0, rxErrors := 0, recovery := 0, queue := [] }
      writeQueue := []
      reports := []
      reportsDropped := 0
      pacer := .stopped
      statusPeriod := none
      responder := .initial
      limitPassed := false })
  ∧ (∀ s : State, s.power = .afterRun → s.reports = [] → s.control.queue = [] → s.vehicle.queue = [] →
    s.writeQueue = [] → s.write = none → s.store.state ≠ .writing →
    exec .afterRunEnd s = .next s.asleep)
  ∧ (∀ s : State, s.power = .afterRun → s.limitPassed = false → s.write = none → s.store.state ≠ .writing →
    exec .afterRunLimit s = .next (State.asleep { s with
      retained := { s.retained with flags := { s.retained.flags with
        deferredOverflow := if s.writeQueue = [] then s.retained.flags.deferredOverflow else true } } }))
  ∧ (∀ (s : State) (w : SlotWrite) (head : WriteEntry) (rest : List WriteEntry),
    s.power = .afterRun → s.limitPassed = false → s.write = some w → s.writeQueue = head :: rest →
    ∃ t, exec .afterRunLimit s = .next t
      ∧ (rest ≠ [] → t.retained.flags.deferredOverflow = true)
      ∧ (s.retained.flags.deferredOverflow = true → t.retained.flags.deferredOverflow = true)
      ∧ (rest = [] → (∀ c d cs, head ≠ .age (c :: d :: cs)) →
        t.retained.flags.deferredOverflow = s.retained.flags.deferredOverflow ∧ t.free = s.free)
      ∧ t.writeQueue = [match head with | .age (c :: _) => .age [c] | x => x]
      ∧ t = { s with
          writeQueue := t.writeQueue
          retained := { s.retained with flags := { s.retained.flags with
            deferredOverflow := t.retained.flags.deferredOverflow } }
          free := t.free
          limitPassed := true })
  ∧ (∀ s : State, s.power = .afterRun → s.limitPassed = false → s.write = none → s.store.state = .writing →
    exec .afterRunLimit s = .next { s with
      writeQueue := []
      retained := { s.retained with flags := { s.retained.flags with
        deferredOverflow := if s.writeQueue = [] then s.retained.flags.deferredOverflow else true } }
      limitPassed := true })

/-- WINDOW_BEGIN, CRYSTAL_STOP and STORE_WRITE_COMPLETE change their own block alone (R140, R158, R176); past the limit of
AFTER_RUN the change to STANDBY follows a store write's completion, unless a slot write is in progress (R121, R174).
That WINDOW_BEGIN begins a window at any point of the old one is the model's choice (log entry 29). -/
def Obligations.WindowCrystalAndStoreEventsActAlone : Prop :=
  ∀ s : State,
    (s.pacer.running = true → exec .windowBegin s = .next { s with
      pacer :=
        { running := true
          nextSlot := 0
          elapsed := 0
          rate := s.pacer.pendingRate.getD s.working.settings.reportsPerWindow
          pendingRate := none } })
    ∧ exec .crystalStop s = .next { s with crystalRuns := false, timebase := .internal, degraded := true }
    ∧ (s.store.state = .writing → exec .storeWriteComplete s = .next (State.restedPastLimit { s with
      store := { s.store with state := .valid }
      storeFailed := false }))
end

