-- ==== Sys2Proof/Laws/State.lean ====
section
/-! SUPPORT. One lemma for each field that a named update of the state leaves as it is, so that no later proof unfolds
a record update. -/

namespace Sys2Proof.Machine

/-! ### `State.withResponder` -/

@[simp] theorem State.withResponder_power (s : State) (r : Responder) :
    (s.withResponder r).power = s.power := rfl

@[simp] theorem State.withResponder_stage (s : State) (r : Responder) :
    (s.withResponder r).stage = s.stage := rfl

@[simp] theorem State.withResponder_resetKind (s : State) (r : Responder) :
    (s.withResponder r).resetKind = s.resetKind := rfl

@[simp] theorem State.withResponder_battery (s : State) (r : Responder) :
    (s.withResponder r).battery = s.battery := rfl

@[simp] theorem State.withResponder_band (s : State) (r : Responder) :
    (s.withResponder r).band = s.band := rfl

@[simp] theorem State.withResponder_sampleCount (s : State) (r : Responder) :
    (s.withResponder r).sampleCount = s.sampleCount := rfl

@[simp] theorem State.withResponder_keyLine (s : State) (r : Responder) :
    (s.withResponder r).keyLine = s.keyLine := rfl

@[simp] theorem State.withResponder_keySettled (s : State) (r : Responder) :
    (s.withResponder r).keySettled = s.keySettled := rfl

@[simp] theorem State.withResponder_timebase (s : State) (r : Responder) :
    (s.withResponder r).timebase = s.timebase := rfl

@[simp] theorem State.withResponder_degraded (s : State) (r : Responder) :
    (s.withResponder r).degraded = s.degraded := rfl

@[simp] theorem State.withResponder_crystalRuns (s : State) (r : Responder) :
    (s.withResponder r).crystalRuns = s.crystalRuns := rfl

@[simp] theorem State.withResponder_retained (s : State) (r : Responder) :
    (s.withResponder r).retained = s.retained := rfl

@[simp] theorem State.withResponder_store (s : State) (r : Responder) :
    (s.withResponder r).store = s.store := rfl

@[simp] theorem State.withResponder_storeFailed (s : State) (r : Responder) :
    (s.withResponder r).storeFailed = s.storeFailed := rfl

@[simp] theorem State.withResponder_configured (s : State) (r : Responder) :
    (s.withResponder r).configured = s.configured := rfl

@[simp] theorem State.withResponder_working (s : State) (r : Responder) :
    (s.withResponder r).working = s.working := rfl

@[simp] theorem State.withResponder_staging (s : State) (r : Responder) :
    (s.withResponder r).staging = s.staging := rfl

@[simp] theorem State.withResponder_control (s : State) (r : Responder) :
    (s.withResponder r).control = s.control := rfl

@[simp] theorem State.withResponder_vehicle (s : State) (r : Responder) :
    (s.withResponder r).vehicle = s.vehicle := rfl

@[simp] theorem State.withResponder_clashes (s : State) (r : Responder) :
    (s.withResponder r).clashes = s.clashes := rfl

@[simp] theorem State.withResponder_monitor (s : State) (r : Responder) :
    (s.withResponder r).monitor = s.monitor := rfl

@[simp] theorem State.withResponder_cache (s : State) (r : Responder) :
    (s.withResponder r).cache = s.cache := rfl

@[simp] theorem State.withResponder_watches (s : State) (r : Responder) :
    (s.withResponder r).watches = s.watches := rfl

@[simp] theorem State.withResponder_faults (s : State) (r : Responder) :
    (s.withResponder r).faults = s.faults := rfl

@[simp] theorem State.withResponder_writeQueue (s : State) (r : Responder) :
    (s.withResponder r).writeQueue = s.writeQueue := rfl

@[simp] theorem State.withResponder_write (s : State) (r : Responder) :
    (s.withResponder r).write = s.write := rfl

@[simp] theorem State.withResponder_engineLamp (s : State) (r : Responder) :
    (s.withResponder r).engineLamp = s.engineLamp := rfl

@[simp] theorem State.withResponder_brakeLamp (s : State) (r : Responder) :
    (s.withResponder r).brakeLamp = s.brakeLamp := rfl

@[simp] theorem State.withResponder_stepPos (s : State) (r : Responder) :
    (s.withResponder r).stepPos = s.stepPos := rfl

@[simp] theorem State.withResponder_boundaryDue (s : State) (r : Responder) :
    (s.withResponder r).boundaryDue = s.boundaryDue := rfl

@[simp] theorem State.withResponder_bulbCheck (s : State) (r : Responder) :
    (s.withResponder r).bulbCheck = s.bulbCheck := rfl

@[simp] theorem State.withResponder_reports (s : State) (r : Responder) :
    (s.withResponder r).reports = s.reports := rfl

@[simp] theorem State.withResponder_reportsDropped (s : State) (r : Responder) :
    (s.withResponder r).reportsDropped = s.reportsDropped := rfl

@[simp] theorem State.withResponder_pacer (s : State) (r : Responder) :
    (s.withResponder r).pacer = s.pacer := rfl

@[simp] theorem State.withResponder_statusPeriod (s : State) (r : Responder) :
    (s.withResponder r).statusPeriod = s.statusPeriod := rfl

@[simp] theorem State.withResponder_limitPassed (s : State) (r : Responder) :
    (s.withResponder r).limitPassed = s.limitPassed := rfl

@[simp] theorem State.withResponder_sampleElapsed (s : State) (r : Responder) :
    (s.withResponder r).sampleElapsed = s.sampleElapsed := rfl

@[simp] theorem State.withResponder_keyElapsed (s : State) (r : Responder) :
    (s.withResponder r).keyElapsed = s.keyElapsed := rfl

@[simp] theorem State.withResponder_lampElapsed (s : State) (r : Responder) :
    (s.withResponder r).lampElapsed = s.lampElapsed := rfl

@[simp] theorem State.withResponder_statusElapsed (s : State) (r : Responder) :
    (s.withResponder r).statusElapsed = s.statusElapsed := rfl

@[simp] theorem State.withResponder_afterRunElapsed (s : State) (r : Responder) :
    (s.withResponder r).afterRunElapsed = s.afterRunElapsed := rfl

@[simp] theorem State.withResponder_free (s : State) (r : Responder) :
    (s.withResponder r).free = s.free := rfl

@[simp] theorem State.withResponder_pending (s : State) (r : Responder) :
    (s.withResponder r).pending = s.pending := rfl

/-! ### `State.withRetained` -/

@[simp] theorem State.withRetained_power (s : State) (r : Retained) :
    (s.withRetained r).power = s.power := rfl

@[simp] theorem State.withRetained_stage (s : State) (r : Retained) :
    (s.withRetained r).stage = s.stage := rfl

@[simp] theorem State.withRetained_resetKind (s : State) (r : Retained) :
    (s.withRetained r).resetKind = s.resetKind := rfl

@[simp] theorem State.withRetained_battery (s : State) (r : Retained) :
    (s.withRetained r).battery = s.battery := rfl

@[simp] theorem State.withRetained_band (s : State) (r : Retained) :
    (s.withRetained r).band = s.band := rfl

@[simp] theorem State.withRetained_sampleCount (s : State) (r : Retained) :
    (s.withRetained r).sampleCount = s.sampleCount := rfl

@[simp] theorem State.withRetained_keyLine (s : State) (r : Retained) :
    (s.withRetained r).keyLine = s.keyLine := rfl

@[simp] theorem State.withRetained_keySettled (s : State) (r : Retained) :
    (s.withRetained r).keySettled = s.keySettled := rfl

@[simp] theorem State.withRetained_timebase (s : State) (r : Retained) :
    (s.withRetained r).timebase = s.timebase := rfl

@[simp] theorem State.withRetained_degraded (s : State) (r : Retained) :
    (s.withRetained r).degraded = s.degraded := rfl

@[simp] theorem State.withRetained_crystalRuns (s : State) (r : Retained) :
    (s.withRetained r).crystalRuns = s.crystalRuns := rfl

@[simp] theorem State.withRetained_store (s : State) (r : Retained) :
    (s.withRetained r).store = s.store := rfl

@[simp] theorem State.withRetained_storeFailed (s : State) (r : Retained) :
    (s.withRetained r).storeFailed = s.storeFailed := rfl

@[simp] theorem State.withRetained_configured (s : State) (r : Retained) :
    (s.withRetained r).configured = s.configured := rfl

@[simp] theorem State.withRetained_working (s : State) (r : Retained) :
    (s.withRetained r).working = s.working := rfl

@[simp] theorem State.withRetained_staging (s : State) (r : Retained) :
    (s.withRetained r).staging = s.staging := rfl

@[simp] theorem State.withRetained_control (s : State) (r : Retained) :
    (s.withRetained r).control = s.control := rfl

@[simp] theorem State.withRetained_vehicle (s : State) (r : Retained) :
    (s.withRetained r).vehicle = s.vehicle := rfl

@[simp] theorem State.withRetained_clashes (s : State) (r : Retained) :
    (s.withRetained r).clashes = s.clashes := rfl

@[simp] theorem State.withRetained_monitor (s : State) (r : Retained) :
    (s.withRetained r).monitor = s.monitor := rfl

@[simp] theorem State.withRetained_cache (s : State) (r : Retained) :
    (s.withRetained r).cache = s.cache := rfl

@[simp] theorem State.withRetained_watches (s : State) (r : Retained) :
    (s.withRetained r).watches = s.watches := rfl

@[simp] theorem State.withRetained_faults (s : State) (r : Retained) :
    (s.withRetained r).faults = s.faults := rfl

@[simp] theorem State.withRetained_writeQueue (s : State) (r : Retained) :
    (s.withRetained r).writeQueue = s.writeQueue := rfl

@[simp] theorem State.withRetained_write (s : State) (r : Retained) :
    (s.withRetained r).write = s.write := rfl

@[simp] theorem State.withRetained_engineLamp (s : State) (r : Retained) :
    (s.withRetained r).engineLamp = s.engineLamp := rfl

@[simp] theorem State.withRetained_brakeLamp (s : State) (r : Retained) :
    (s.withRetained r).brakeLamp = s.brakeLamp := rfl

@[simp] theorem State.withRetained_stepPos (s : State) (r : Retained) :
    (s.withRetained r).stepPos = s.stepPos := rfl

@[simp] theorem State.withRetained_boundaryDue (s : State) (r : Retained) :
    (s.withRetained r).boundaryDue = s.boundaryDue := rfl

@[simp] theorem State.withRetained_bulbCheck (s : State) (r : Retained) :
    (s.withRetained r).bulbCheck = s.bulbCheck := rfl

@[simp] theorem State.withRetained_reports (s : State) (r : Retained) :
    (s.withRetained r).reports = s.reports := rfl

@[simp] theorem State.withRetained_reportsDropped (s : State) (r : Retained) :
    (s.withRetained r).reportsDropped = s.reportsDropped := rfl

@[simp] theorem State.withRetained_pacer (s : State) (r : Retained) :
    (s.withRetained r).pacer = s.pacer := rfl

@[simp] theorem State.withRetained_statusPeriod (s : State) (r : Retained) :
    (s.withRetained r).statusPeriod = s.statusPeriod := rfl

@[simp] theorem State.withRetained_responder (s : State) (r : Retained) :
    (s.withRetained r).responder = s.responder := rfl

@[simp] theorem State.withRetained_limitPassed (s : State) (r : Retained) :
    (s.withRetained r).limitPassed = s.limitPassed := rfl

@[simp] theorem State.withRetained_sampleElapsed (s : State) (r : Retained) :
    (s.withRetained r).sampleElapsed = s.sampleElapsed := rfl

@[simp] theorem State.withRetained_keyElapsed (s : State) (r : Retained) :
    (s.withRetained r).keyElapsed = s.keyElapsed := rfl

@[simp] theorem State.withRetained_lampElapsed (s : State) (r : Retained) :
    (s.withRetained r).lampElapsed = s.lampElapsed := rfl

@[simp] theorem State.withRetained_statusElapsed (s : State) (r : Retained) :
    (s.withRetained r).statusElapsed = s.statusElapsed := rfl

@[simp] theorem State.withRetained_afterRunElapsed (s : State) (r : Retained) :
    (s.withRetained r).afterRunElapsed = s.afterRunElapsed := rfl

@[simp] theorem State.withRetained_free (s : State) (r : Retained) :
    (s.withRetained r).free = s.free := rfl

@[simp] theorem State.withRetained_pending (s : State) (r : Retained) :
    (s.withRetained r).pending = s.pending := rfl

/-! ### `State.setPort` -/

@[simp] theorem State.setPort_power (s : State) (p : Port) (r : PortRecord) :
    (s.setPort p r).power = s.power := by cases p <;> rfl

@[simp] theorem State.setPort_stage (s : State) (p : Port) (r : PortRecord) :
    (s.setPort p r).stage = s.stage := by cases p <;> rfl

@[simp] theorem State.setPort_resetKind (s : State) (p : Port) (r : PortRecord) :
    (s.setPort p r).resetKind = s.resetKind := by cases p <;> rfl

@[simp] theorem State.setPort_battery (s : State) (p : Port) (r : PortRecord) :
    (s.setPort p r).battery = s.battery := by cases p <;> rfl

@[simp] theorem State.setPort_band (s : State) (p : Port) (r : PortRecord) :
    (s.setPort p r).band = s.band := by cases p <;> rfl

@[simp] theorem State.setPort_sampleCount (s : State) (p : Port) (r : PortRecord) :
    (s.setPort p r).sampleCount = s.sampleCount := by cases p <;> rfl

@[simp] theorem State.setPort_keyLine (s : State) (p : Port) (r : PortRecord) :
    (s.setPort p r).keyLine = s.keyLine := by cases p <;> rfl

@[simp] theorem State.setPort_keySettled (s : State) (p : Port) (r : PortRecord) :
    (s.setPort p r).keySettled = s.keySettled := by cases p <;> rfl

@[simp] theorem State.setPort_timebase (s : State) (p : Port) (r : PortRecord) :
    (s.setPort p r).timebase = s.timebase := by cases p <;> rfl

@[simp] theorem State.setPort_degraded (s : State) (p : Port) (r : PortRecord) :
    (s.setPort p r).degraded = s.degraded := by cases p <;> rfl

@[simp] theorem State.setPort_crystalRuns (s : State) (p : Port) (r : PortRecord) :
    (s.setPort p r).crystalRuns = s.crystalRuns := by cases p <;> rfl

@[simp] theorem State.setPort_retained (s : State) (p : Port) (r : PortRecord) :
    (s.setPort p r).retained = s.retained := by cases p <;> rfl

@[simp] theorem State.setPort_store (s : State) (p : Port) (r : PortRecord) :
    (s.setPort p r).store = s.store := by cases p <;> rfl

@[simp] theorem State.setPort_storeFailed (s : State) (p : Port) (r : PortRecord) :
    (s.setPort p r).storeFailed = s.storeFailed := by cases p <;> rfl

@[simp] theorem State.setPort_configured (s : State) (p : Port) (r : PortRecord) :
    (s.setPort p r).configured = s.configured := by cases p <;> rfl

@[simp] theorem State.setPort_working (s : State) (p : Port) (r : PortRecord) :
    (s.setPort p r).working = s.working := by cases p <;> rfl

@[simp] theorem State.setPort_staging (s : State) (p : Port) (r : PortRecord) :
    (s.setPort p r).staging = s.staging := by cases p <;> rfl

@[simp] theorem State.setPort_clashes (s : State) (p : Port) (r : PortRecord) :
    (s.setPort p r).clashes = s.clashes := by cases p <;> rfl

@[simp] theorem State.setPort_monitor (s : State) (p : Port) (r : PortRecord) :
    (s.setPort p r).monitor = s.monitor := by cases p <;> rfl

@[simp] theorem State.setPort_cache (s : State) (p : Port) (r : PortRecord) :
    (s.setPort p r).cache = s.cache := by cases p <;> rfl

@[simp] theorem State.setPort_watches (s : State) (p : Port) (r : PortRecord) :
    (s.setPort p r).watches = s.watches := by cases p <;> rfl

@[simp] theorem State.setPort_faults (s : State) (p : Port) (r : PortRecord) :
    (s.setPort p r).faults = s.faults := by cases p <;> rfl

@[simp] theorem State.setPort_writeQueue (s : State) (p : Port) (r : PortRecord) :
    (s.setPort p r).writeQueue = s.writeQueue := by cases p <;> rfl

@[simp] theorem State.setPort_write (s : State) (p : Port) (r : PortRecord) :
    (s.setPort p r).write = s.write := by cases p <;> rfl

@[simp] theorem State.setPort_engineLamp (s : State) (p : Port) (r : PortRecord) :
    (s.setPort p r).engineLamp = s.engineLamp := by cases p <;> rfl

@[simp] theorem State.setPort_brakeLamp (s : State) (p : Port) (r : PortRecord) :
    (s.setPort p r).brakeLamp = s.brakeLamp := by cases p <;> rfl

@[simp] theorem State.setPort_stepPos (s : State) (p : Port) (r : PortRecord) :
    (s.setPort p r).stepPos = s.stepPos := by cases p <;> rfl

@[simp] theorem State.setPort_boundaryDue (s : State) (p : Port) (r : PortRecord) :
    (s.setPort p r).boundaryDue = s.boundaryDue := by cases p <;> rfl

@[simp] theorem State.setPort_bulbCheck (s : State) (p : Port) (r : PortRecord) :
    (s.setPort p r).bulbCheck = s.bulbCheck := by cases p <;> rfl

@[simp] theorem State.setPort_reports (s : State) (p : Port) (r : PortRecord) :
    (s.setPort p r).reports = s.reports := by cases p <;> rfl

@[simp] theorem State.setPort_reportsDropped (s : State) (p : Port) (r : PortRecord) :
    (s.setPort p r).reportsDropped = s.reportsDropped := by cases p <;> rfl

@[simp] theorem State.setPort_pacer (s : State) (p : Port) (r : PortRecord) :
    (s.setPort p r).pacer = s.pacer := by cases p <;> rfl

@[simp] theorem State.setPort_statusPeriod (s : State) (p : Port) (r : PortRecord) :
    (s.setPort p r).statusPeriod = s.statusPeriod := by cases p <;> rfl

@[simp] theorem State.setPort_responder (s : State) (p : Port) (r : PortRecord) :
    (s.setPort p r).responder = s.responder := by cases p <;> rfl

@[simp] theorem State.setPort_limitPassed (s : State) (p : Port) (r : PortRecord) :
    (s.setPort p r).limitPassed = s.limitPassed := by cases p <;> rfl

@[simp] theorem State.setPort_sampleElapsed (s : State) (p : Port) (r : PortRecord) :
    (s.setPort p r).sampleElapsed = s.sampleElapsed := by cases p <;> rfl

@[simp] theorem State.setPort_keyElapsed (s : State) (p : Port) (r : PortRecord) :
    (s.setPort p r).keyElapsed = s.keyElapsed := by cases p <;> rfl

@[simp] theorem State.setPort_lampElapsed (s : State) (p : Port) (r : PortRecord) :
    (s.setPort p r).lampElapsed = s.lampElapsed := by cases p <;> rfl

@[simp] theorem State.setPort_statusElapsed (s : State) (p : Port) (r : PortRecord) :
    (s.setPort p r).statusElapsed = s.statusElapsed := by cases p <;> rfl

@[simp] theorem State.setPort_afterRunElapsed (s : State) (p : Port) (r : PortRecord) :
    (s.setPort p r).afterRunElapsed = s.afterRunElapsed := by cases p <;> rfl

@[simp] theorem State.setPort_free (s : State) (p : Port) (r : PortRecord) :
    (s.setPort p r).free = s.free := by cases p <;> rfl

@[simp] theorem State.setPort_pending (s : State) (p : Port) (r : PortRecord) :
    (s.setPort p r).pending = s.pending := by cases p <;> rfl

/-! ### `State.withSlots` -/

@[simp] theorem State.withSlots_power (s : State) (x : List Slot) :
    (s.withSlots x).power = s.power := rfl

@[simp] theorem State.withSlots_stage (s : State) (x : List Slot) :
    (s.withSlots x).stage = s.stage := rfl

@[simp] theorem State.withSlots_resetKind (s : State) (x : List Slot) :
    (s.withSlots x).resetKind = s.resetKind := rfl

@[simp] theorem State.withSlots_battery (s : State) (x : List Slot) :
    (s.withSlots x).battery = s.battery := rfl

@[simp] theorem State.withSlots_band (s : State) (x : List Slot) :
    (s.withSlots x).band = s.band := rfl

@[simp] theorem State.withSlots_sampleCount (s : State) (x : List Slot) :
    (s.withSlots x).sampleCount = s.sampleCount := rfl

@[simp] theorem State.withSlots_keyLine (s : State) (x : List Slot) :
    (s.withSlots x).keyLine = s.keyLine := rfl

@[simp] theorem State.withSlots_keySettled (s : State) (x : List Slot) :
    (s.withSlots x).keySettled = s.keySettled := rfl

@[simp] theorem State.withSlots_timebase (s : State) (x : List Slot) :
    (s.withSlots x).timebase = s.timebase := rfl

@[simp] theorem State.withSlots_degraded (s : State) (x : List Slot) :
    (s.withSlots x).degraded = s.degraded := rfl

@[simp] theorem State.withSlots_crystalRuns (s : State) (x : List Slot) :
    (s.withSlots x).crystalRuns = s.crystalRuns := rfl

@[simp] theorem State.withSlots_store (s : State) (x : List Slot) :
    (s.withSlots x).store = s.store := rfl

@[simp] theorem State.withSlots_storeFailed (s : State) (x : List Slot) :
    (s.withSlots x).storeFailed = s.storeFailed := rfl

@[simp] theorem State.withSlots_configured (s : State) (x : List Slot) :
    (s.withSlots x).configured = s.configured := rfl

@[simp] theorem State.withSlots_working (s : State) (x : List Slot) :
    (s.withSlots x).working = s.working := rfl

@[simp] theorem State.withSlots_staging (s : State) (x : List Slot) :
    (s.withSlots x).staging = s.staging := rfl

@[simp] theorem State.withSlots_control (s : State) (x : List Slot) :
    (s.withSlots x).control = s.control := rfl

@[simp] theorem State.withSlots_vehicle (s : State) (x : List Slot) :
    (s.withSlots x).vehicle = s.vehicle := rfl

@[simp] theorem State.withSlots_clashes (s : State) (x : List Slot) :
    (s.withSlots x).clashes = s.clashes := rfl

@[simp] theorem State.withSlots_monitor (s : State) (x : List Slot) :
    (s.withSlots x).monitor = s.monitor := rfl

@[simp] theorem State.withSlots_cache (s : State) (x : List Slot) :
    (s.withSlots x).cache = s.cache := rfl

@[simp] theorem State.withSlots_watches (s : State) (x : List Slot) :
    (s.withSlots x).watches = s.watches := rfl

@[simp] theorem State.withSlots_faults (s : State) (x : List Slot) :
    (s.withSlots x).faults = s.faults := rfl

@[simp] theorem State.withSlots_writeQueue (s : State) (x : List Slot) :
    (s.withSlots x).writeQueue = s.writeQueue := rfl

@[simp] theorem State.withSlots_write (s : State) (x : List Slot) :
    (s.withSlots x).write = s.write := rfl

@[simp] theorem State.withSlots_engineLamp (s : State) (x : List Slot) :
    (s.withSlots x).engineLamp = s.engineLamp := rfl

@[simp] theorem State.withSlots_brakeLamp (s : State) (x : List Slot) :
    (s.withSlots x).brakeLamp = s.brakeLamp := rfl

@[simp] theorem State.withSlots_stepPos (s : State) (x : List Slot) :
    (s.withSlots x).stepPos = s.stepPos := rfl

@[simp] theorem State.withSlots_boundaryDue (s : State) (x : List Slot) :
    (s.withSlots x).boundaryDue = s.boundaryDue := rfl

@[simp] theorem State.withSlots_bulbCheck (s : State) (x : List Slot) :
    (s.withSlots x).bulbCheck = s.bulbCheck := rfl

@[simp] theorem State.withSlots_reports (s : State) (x : List Slot) :
    (s.withSlots x).reports = s.reports := rfl

@[simp] theorem State.withSlots_reportsDropped (s : State) (x : List Slot) :
    (s.withSlots x).reportsDropped = s.reportsDropped := rfl

@[simp] theorem State.withSlots_pacer (s : State) (x : List Slot) :
    (s.withSlots x).pacer = s.pacer := rfl

@[simp] theorem State.withSlots_statusPeriod (s : State) (x : List Slot) :
    (s.withSlots x).statusPeriod = s.statusPeriod := rfl

@[simp] theorem State.withSlots_responder (s : State) (x : List Slot) :
    (s.withSlots x).responder = s.responder := rfl

@[simp] theorem State.withSlots_limitPassed (s : State) (x : List Slot) :
    (s.withSlots x).limitPassed = s.limitPassed := rfl

@[simp] theorem State.withSlots_sampleElapsed (s : State) (x : List Slot) :
    (s.withSlots x).sampleElapsed = s.sampleElapsed := rfl

@[simp] theorem State.withSlots_keyElapsed (s : State) (x : List Slot) :
    (s.withSlots x).keyElapsed = s.keyElapsed := rfl

@[simp] theorem State.withSlots_lampElapsed (s : State) (x : List Slot) :
    (s.withSlots x).lampElapsed = s.lampElapsed := rfl

@[simp] theorem State.withSlots_statusElapsed (s : State) (x : List Slot) :
    (s.withSlots x).statusElapsed = s.statusElapsed := rfl

@[simp] theorem State.withSlots_afterRunElapsed (s : State) (x : List Slot) :
    (s.withSlots x).afterRunElapsed = s.afterRunElapsed := rfl

@[simp] theorem State.withSlots_free (s : State) (x : List Slot) :
    (s.withSlots x).free = s.free := rfl

@[simp] theorem State.withSlots_pending (s : State) (x : List Slot) :
    (s.withSlots x).pending = s.pending := rfl

/-! ### `State.withQueue` -/

@[simp] theorem State.withQueue_power (s : State) (q : List WriteEntry) :
    (s.withQueue q).power = s.power := rfl

@[simp] theorem State.withQueue_stage (s : State) (q : List WriteEntry) :
    (s.withQueue q).stage = s.stage := rfl

@[simp] theorem State.withQueue_resetKind (s : State) (q : List WriteEntry) :
    (s.withQueue q).resetKind = s.resetKind := rfl

@[simp] theorem State.withQueue_battery (s : State) (q : List WriteEntry) :
    (s.withQueue q).battery = s.battery := rfl

@[simp] theorem State.withQueue_band (s : State) (q : List WriteEntry) :
    (s.withQueue q).band = s.band := rfl

@[simp] theorem State.withQueue_sampleCount (s : State) (q : List WriteEntry) :
    (s.withQueue q).sampleCount = s.sampleCount := rfl

@[simp] theorem State.withQueue_keyLine (s : State) (q : List WriteEntry) :
    (s.withQueue q).keyLine = s.keyLine := rfl

@[simp] theorem State.withQueue_keySettled (s : State) (q : List WriteEntry) :
    (s.withQueue q).keySettled = s.keySettled := rfl

@[simp] theorem State.withQueue_timebase (s : State) (q : List WriteEntry) :
    (s.withQueue q).timebase = s.timebase := rfl

@[simp] theorem State.withQueue_degraded (s : State) (q : List WriteEntry) :
    (s.withQueue q).degraded = s.degraded := rfl

@[simp] theorem State.withQueue_crystalRuns (s : State) (q : List WriteEntry) :
    (s.withQueue q).crystalRuns = s.crystalRuns := rfl

@[simp] theorem State.withQueue_retained (s : State) (q : List WriteEntry) :
    (s.withQueue q).retained = s.retained := rfl

@[simp] theorem State.withQueue_store (s : State) (q : List WriteEntry) :
    (s.withQueue q).store = s.store := rfl

@[simp] theorem State.withQueue_storeFailed (s : State) (q : List WriteEntry) :
    (s.withQueue q).storeFailed = s.storeFailed := rfl

@[simp] theorem State.withQueue_configured (s : State) (q : List WriteEntry) :
    (s.withQueue q).configured = s.configured := rfl

@[simp] theorem State.withQueue_working (s : State) (q : List WriteEntry) :
    (s.withQueue q).working = s.working := rfl

@[simp] theorem State.withQueue_staging (s : State) (q : List WriteEntry) :
    (s.withQueue q).staging = s.staging := rfl

@[simp] theorem State.withQueue_control (s : State) (q : List WriteEntry) :
    (s.withQueue q).control = s.control := rfl

@[simp] theorem State.withQueue_vehicle (s : State) (q : List WriteEntry) :
    (s.withQueue q).vehicle = s.vehicle := rfl

@[simp] theorem State.withQueue_clashes (s : State) (q : List WriteEntry) :
    (s.withQueue q).clashes = s.clashes := rfl

@[simp] theorem State.withQueue_monitor (s : State) (q : List WriteEntry) :
    (s.withQueue q).monitor = s.monitor := rfl

@[simp] theorem State.withQueue_cache (s : State) (q : List WriteEntry) :
    (s.withQueue q).cache = s.cache := rfl

@[simp] theorem State.withQueue_watches (s : State) (q : List WriteEntry) :
    (s.withQueue q).watches = s.watches := rfl

@[simp] theorem State.withQueue_faults (s : State) (q : List WriteEntry) :
    (s.withQueue q).faults = s.faults := rfl

@[simp] theorem State.withQueue_write (s : State) (q : List WriteEntry) :
    (s.withQueue q).write = s.write := rfl

@[simp] theorem State.withQueue_engineLamp (s : State) (q : List WriteEntry) :
    (s.withQueue q).engineLamp = s.engineLamp := rfl

@[simp] theorem State.withQueue_brakeLamp (s : State) (q : List WriteEntry) :
    (s.withQueue q).brakeLamp = s.brakeLamp := rfl

@[simp] theorem State.withQueue_stepPos (s : State) (q : List WriteEntry) :
    (s.withQueue q).stepPos = s.stepPos := rfl

@[simp] theorem State.withQueue_boundaryDue (s : State) (q : List WriteEntry) :
    (s.withQueue q).boundaryDue = s.boundaryDue := rfl

@[simp] theorem State.withQueue_bulbCheck (s : State) (q : List WriteEntry) :
    (s.withQueue q).bulbCheck = s.bulbCheck := rfl

@[simp] theorem State.withQueue_reports (s : State) (q : List WriteEntry) :
    (s.withQueue q).reports = s.reports := rfl

@[simp] theorem State.withQueue_reportsDropped (s : State) (q : List WriteEntry) :
    (s.withQueue q).reportsDropped = s.reportsDropped := rfl

@[simp] theorem State.withQueue_pacer (s : State) (q : List WriteEntry) :
    (s.withQueue q).pacer = s.pacer := rfl

@[simp] theorem State.withQueue_statusPeriod (s : State) (q : List WriteEntry) :
    (s.withQueue q).statusPeriod = s.statusPeriod := rfl

@[simp] theorem State.withQueue_responder (s : State) (q : List WriteEntry) :
    (s.withQueue q).responder = s.responder := rfl

@[simp] theorem State.withQueue_limitPassed (s : State) (q : List WriteEntry) :
    (s.withQueue q).limitPassed = s.limitPassed := rfl

@[simp] theorem State.withQueue_sampleElapsed (s : State) (q : List WriteEntry) :
    (s.withQueue q).sampleElapsed = s.sampleElapsed := rfl

@[simp] theorem State.withQueue_keyElapsed (s : State) (q : List WriteEntry) :
    (s.withQueue q).keyElapsed = s.keyElapsed := rfl

@[simp] theorem State.withQueue_lampElapsed (s : State) (q : List WriteEntry) :
    (s.withQueue q).lampElapsed = s.lampElapsed := rfl

@[simp] theorem State.withQueue_statusElapsed (s : State) (q : List WriteEntry) :
    (s.withQueue q).statusElapsed = s.statusElapsed := rfl

@[simp] theorem State.withQueue_afterRunElapsed (s : State) (q : List WriteEntry) :
    (s.withQueue q).afterRunElapsed = s.afterRunElapsed := rfl

@[simp] theorem State.withQueue_free (s : State) (q : List WriteEntry) :
    (s.withQueue q).free = s.free := rfl

@[simp] theorem State.withQueue_pending (s : State) (q : List WriteEntry) :
    (s.withQueue q).pending = s.pending := rfl

/-! ### `State.finishWrite` -/

@[simp] theorem State.finishWrite_power (s : State) (i : Nat) (x : Slot) (q : List WriteEntry) :
    (s.finishWrite i x q).power = s.power := rfl

@[simp] theorem State.finishWrite_stage (s : State) (i : Nat) (x : Slot) (q : List WriteEntry) :
    (s.finishWrite i x q).stage = s.stage := rfl

@[simp] theorem State.finishWrite_resetKind (s : State) (i : Nat) (x : Slot) (q : List WriteEntry) :
    (s.finishWrite i x q).resetKind = s.resetKind := rfl

@[simp] theorem State.finishWrite_battery (s : State) (i : Nat) (x : Slot) (q : List WriteEntry) :
    (s.finishWrite i x q).battery = s.battery := rfl

@[simp] theorem State.finishWrite_band (s : State) (i : Nat) (x : Slot) (q : List WriteEntry) :
    (s.finishWrite i x q).band = s.band := rfl

@[simp] theorem State.finishWrite_sampleCount (s : State) (i : Nat) (x : Slot) (q : List WriteEntry) :
    (s.finishWrite i x q).sampleCount = s.sampleCount := rfl

@[simp] theorem State.finishWrite_keyLine (s : State) (i : Nat) (x : Slot) (q : List WriteEntry) :
    (s.finishWrite i x q).keyLine = s.keyLine := rfl

@[simp] theorem State.finishWrite_keySettled (s : State) (i : Nat) (x : Slot) (q : List WriteEntry) :
    (s.finishWrite i x q).keySettled = s.keySettled := rfl

@[simp] theorem State.finishWrite_timebase (s : State) (i : Nat) (x : Slot) (q : List WriteEntry) :
    (s.finishWrite i x q).timebase = s.timebase := rfl

@[simp] theorem State.finishWrite_degraded (s : State) (i : Nat) (x : Slot) (q : List WriteEntry) :
    (s.finishWrite i x q).degraded = s.degraded := rfl

@[simp] theorem State.finishWrite_crystalRuns (s : State) (i : Nat) (x : Slot) (q : List WriteEntry) :
    (s.finishWrite i x q).crystalRuns = s.crystalRuns := rfl

@[simp] theorem State.finishWrite_store (s : State) (i : Nat) (x : Slot) (q : List WriteEntry) :
    (s.finishWrite i x q).store = s.store := rfl

@[simp] theorem State.finishWrite_storeFailed (s : State) (i : Nat) (x : Slot) (q : List WriteEntry) :
    (s.finishWrite i x q).storeFailed = s.storeFailed := rfl

@[simp] theorem State.finishWrite_configured (s : State) (i : Nat) (x : Slot) (q : List WriteEntry) :
    (s.finishWrite i x q).configured = s.configured := rfl

@[simp] theorem State.finishWrite_working (s : State) (i : Nat) (x : Slot) (q : List WriteEntry) :
    (s.finishWrite i x q).working = s.working := rfl

@[simp] theorem State.finishWrite_staging (s : State) (i : Nat) (x : Slot) (q : List WriteEntry) :
    (s.finishWrite i x q).staging = s.staging := rfl

@[simp] theorem State.finishWrite_control (s : State) (i : Nat) (x : Slot) (q : List WriteEntry) :
    (s.finishWrite i x q).control = s.control := rfl

@[simp] theorem State.finishWrite_vehicle (s : State) (i : Nat) (x : Slot) (q : List WriteEntry) :
    (s.finishWrite i x q).vehicle = s.vehicle := rfl

@[simp] theorem State.finishWrite_clashes (s : State) (i : Nat) (x : Slot) (q : List WriteEntry) :
    (s.finishWrite i x q).clashes = s.clashes := rfl

@[simp] theorem State.finishWrite_monitor (s : State) (i : Nat) (x : Slot) (q : List WriteEntry) :
    (s.finishWrite i x q).monitor = s.monitor := rfl

@[simp] theorem State.finishWrite_cache (s : State) (i : Nat) (x : Slot) (q : List WriteEntry) :
    (s.finishWrite i x q).cache = s.cache := rfl

@[simp] theorem State.finishWrite_watches (s : State) (i : Nat) (x : Slot) (q : List WriteEntry) :
    (s.finishWrite i x q).watches = s.watches := rfl

@[simp] theorem State.finishWrite_faults (s : State) (i : Nat) (x : Slot) (q : List WriteEntry) :
    (s.finishWrite i x q).faults = s.faults := rfl

@[simp] theorem State.finishWrite_engineLamp (s : State) (i : Nat) (x : Slot) (q : List WriteEntry) :
    (s.finishWrite i x q).engineLamp = s.engineLamp := rfl

@[simp] theorem State.finishWrite_brakeLamp (s : State) (i : Nat) (x : Slot) (q : List WriteEntry) :
    (s.finishWrite i x q).brakeLamp = s.brakeLamp := rfl

@[simp] theorem State.finishWrite_stepPos (s : State) (i : Nat) (x : Slot) (q : List WriteEntry) :
    (s.finishWrite i x q).stepPos = s.stepPos := rfl

@[simp] theorem State.finishWrite_boundaryDue (s : State) (i : Nat) (x : Slot) (q : List WriteEntry) :
    (s.finishWrite i x q).boundaryDue = s.boundaryDue := rfl

@[simp] theorem State.finishWrite_bulbCheck (s : State) (i : Nat) (x : Slot) (q : List WriteEntry) :
    (s.finishWrite i x q).bulbCheck = s.bulbCheck := rfl

@[simp] theorem State.finishWrite_reports (s : State) (i : Nat) (x : Slot) (q : List WriteEntry) :
    (s.finishWrite i x q).reports = s.reports := rfl

@[simp] theorem State.finishWrite_reportsDropped (s : State) (i : Nat) (x : Slot) (q : List WriteEntry) :
    (s.finishWrite i x q).reportsDropped = s.reportsDropped := rfl

@[simp] theorem State.finishWrite_pacer (s : State) (i : Nat) (x : Slot) (q : List WriteEntry) :
    (s.finishWrite i x q).pacer = s.pacer := rfl

@[simp] theorem State.finishWrite_statusPeriod (s : State) (i : Nat) (x : Slot) (q : List WriteEntry) :
    (s.finishWrite i x q).statusPeriod = s.statusPeriod := rfl

@[simp] theorem State.finishWrite_responder (s : State) (i : Nat) (x : Slot) (q : List WriteEntry) :
    (s.finishWrite i x q).responder = s.responder := rfl

@[simp] theorem State.finishWrite_limitPassed (s : State) (i : Nat) (x : Slot) (q : List WriteEntry) :
    (s.finishWrite i x q).limitPassed = s.limitPassed := rfl

@[simp] theorem State.finishWrite_sampleElapsed (s : State) (i : Nat) (x : Slot) (q : List WriteEntry) :
    (s.finishWrite i x q).sampleElapsed = s.sampleElapsed := rfl

@[simp] theorem State.finishWrite_keyElapsed (s : State) (i : Nat) (x : Slot) (q : List WriteEntry) :
    (s.finishWrite i x q).keyElapsed = s.keyElapsed := rfl

@[simp] theorem State.finishWrite_lampElapsed (s : State) (i : Nat) (x : Slot) (q : List WriteEntry) :
    (s.finishWrite i x q).lampElapsed = s.lampElapsed := rfl

@[simp] theorem State.finishWrite_statusElapsed (s : State) (i : Nat) (x : Slot) (q : List WriteEntry) :
    (s.finishWrite i x q).statusElapsed = s.statusElapsed := rfl

@[simp] theorem State.finishWrite_afterRunElapsed (s : State) (i : Nat) (x : Slot) (q : List WriteEntry) :
    (s.finishWrite i x q).afterRunElapsed = s.afterRunElapsed := rfl

@[simp] theorem State.finishWrite_free (s : State) (i : Nat) (x : Slot) (q : List WriteEntry) :
    (s.finishWrite i x q).free = s.free := rfl

@[simp] theorem State.finishWrite_pending (s : State) (i : Nat) (x : Slot) (q : List WriteEntry) :
    (s.finishWrite i x q).pending = s.pending := rfl

/-! ### `State.report` -/

@[simp] theorem State.report_power (s : State) (e : ReportEntry) :
    (s.report e).power = s.power := rfl

@[simp] theorem State.report_stage (s : State) (e : ReportEntry) :
    (s.report e).stage = s.stage := rfl

@[simp] theorem State.report_resetKind (s : State) (e : ReportEntry) :
    (s.report e).resetKind = s.resetKind := rfl

@[simp] theorem State.report_battery (s : State) (e : ReportEntry) :
    (s.report e).battery = s.battery := rfl

@[simp] theorem State.report_band (s : State) (e : ReportEntry) :
    (s.report e).band = s.band := rfl

@[simp] theorem State.report_sampleCount (s : State) (e : ReportEntry) :
    (s.report e).sampleCount = s.sampleCount := rfl

@[simp] theorem State.report_keyLine (s : State) (e : ReportEntry) :
    (s.report e).keyLine = s.keyLine := rfl

@[simp] theorem State.report_keySettled (s : State) (e : ReportEntry) :
    (s.report e).keySettled = s.keySettled := rfl

@[simp] theorem State.report_timebase (s : State) (e : ReportEntry) :
    (s.report e).timebase = s.timebase := rfl

@[simp] theorem State.report_degraded (s : State) (e : ReportEntry) :
    (s.report e).degraded = s.degraded := rfl

@[simp] theorem State.report_crystalRuns (s : State) (e : ReportEntry) :
    (s.report e).crystalRuns = s.crystalRuns := rfl

@[simp] theorem State.report_retained (s : State) (e : ReportEntry) :
    (s.report e).retained = s.retained := rfl

@[simp] theorem State.report_store (s : State) (e : ReportEntry) :
    (s.report e).store = s.store := rfl

@[simp] theorem State.report_storeFailed (s : State) (e : ReportEntry) :
    (s.report e).storeFailed = s.storeFailed := rfl

@[simp] theorem State.report_configured (s : State) (e : ReportEntry) :
    (s.report e).configured = s.configured := rfl

@[simp] theorem State.report_working (s : State) (e : ReportEntry) :
    (s.report e).working = s.working := rfl

@[simp] theorem State.report_staging (s : State) (e : ReportEntry) :
    (s.report e).staging = s.staging := rfl

@[simp] theorem State.report_control (s : State) (e : ReportEntry) :
    (s.report e).control = s.control := rfl

@[simp] theorem State.report_vehicle (s : State) (e : ReportEntry) :
    (s.report e).vehicle = s.vehicle := rfl

@[simp] theorem State.report_clashes (s : State) (e : ReportEntry) :
    (s.report e).clashes = s.clashes := rfl

@[simp] theorem State.report_monitor (s : State) (e : ReportEntry) :
    (s.report e).monitor = s.monitor := rfl

@[simp] theorem State.report_cache (s : State) (e : ReportEntry) :
    (s.report e).cache = s.cache := rfl

@[simp] theorem State.report_watches (s : State) (e : ReportEntry) :
    (s.report e).watches = s.watches := rfl

@[simp] theorem State.report_faults (s : State) (e : ReportEntry) :
    (s.report e).faults = s.faults := rfl

@[simp] theorem State.report_writeQueue (s : State) (e : ReportEntry) :
    (s.report e).writeQueue = s.writeQueue := rfl

@[simp] theorem State.report_write (s : State) (e : ReportEntry) :
    (s.report e).write = s.write := rfl

@[simp] theorem State.report_engineLamp (s : State) (e : ReportEntry) :
    (s.report e).engineLamp = s.engineLamp := rfl

@[simp] theorem State.report_brakeLamp (s : State) (e : ReportEntry) :
    (s.report e).brakeLamp = s.brakeLamp := rfl

@[simp] theorem State.report_stepPos (s : State) (e : ReportEntry) :
    (s.report e).stepPos = s.stepPos := rfl

@[simp] theorem State.report_boundaryDue (s : State) (e : ReportEntry) :
    (s.report e).boundaryDue = s.boundaryDue := rfl

@[simp] theorem State.report_bulbCheck (s : State) (e : ReportEntry) :
    (s.report e).bulbCheck = s.bulbCheck := rfl

@[simp] theorem State.report_pacer (s : State) (e : ReportEntry) :
    (s.report e).pacer = s.pacer := rfl

@[simp] theorem State.report_statusPeriod (s : State) (e : ReportEntry) :
    (s.report e).statusPeriod = s.statusPeriod := rfl

@[simp] theorem State.report_responder (s : State) (e : ReportEntry) :
    (s.report e).responder = s.responder := rfl

@[simp] theorem State.report_limitPassed (s : State) (e : ReportEntry) :
    (s.report e).limitPassed = s.limitPassed := rfl

@[simp] theorem State.report_sampleElapsed (s : State) (e : ReportEntry) :
    (s.report e).sampleElapsed = s.sampleElapsed := rfl

@[simp] theorem State.report_keyElapsed (s : State) (e : ReportEntry) :
    (s.report e).keyElapsed = s.keyElapsed := rfl

@[simp] theorem State.report_lampElapsed (s : State) (e : ReportEntry) :
    (s.report e).lampElapsed = s.lampElapsed := rfl

@[simp] theorem State.report_statusElapsed (s : State) (e : ReportEntry) :
    (s.report e).statusElapsed = s.statusElapsed := rfl

@[simp] theorem State.report_afterRunElapsed (s : State) (e : ReportEntry) :
    (s.report e).afterRunElapsed = s.afterRunElapsed := rfl

@[simp] theorem State.report_free (s : State) (e : ReportEntry) :
    (s.report e).free = s.free := rfl

@[simp] theorem State.report_pending (s : State) (e : ReportEntry) :
    (s.report e).pending = s.pending := rfl

/-! ### `State.refreshLamps` -/

@[simp] theorem State.refreshLamps_power (s : State) :
    (s.refreshLamps).power = s.power := rfl

@[simp] theorem State.refreshLamps_stage (s : State) :
    (s.refreshLamps).stage = s.stage := rfl

@[simp] theorem State.refreshLamps_resetKind (s : State) :
    (s.refreshLamps).resetKind = s.resetKind := rfl

@[simp] theorem State.refreshLamps_battery (s : State) :
    (s.refreshLamps).battery = s.battery := rfl

@[simp] theorem State.refreshLamps_band (s : State) :
    (s.refreshLamps).band = s.band := rfl

@[simp] theorem State.refreshLamps_sampleCount (s : State) :
    (s.refreshLamps).sampleCount = s.sampleCount := rfl

@[simp] theorem State.refreshLamps_keyLine (s : State) :
    (s.refreshLamps).keyLine = s.keyLine := rfl

@[simp] theorem State.refreshLamps_keySettled (s : State) :
    (s.refreshLamps).keySettled = s.keySettled := rfl

@[simp] theorem State.refreshLamps_timebase (s : State) :
    (s.refreshLamps).timebase = s.timebase := rfl

@[simp] theorem State.refreshLamps_degraded (s : State) :
    (s.refreshLamps).degraded = s.degraded := rfl

@[simp] theorem State.refreshLamps_crystalRuns (s : State) :
    (s.refreshLamps).crystalRuns = s.crystalRuns := rfl

@[simp] theorem State.refreshLamps_retained (s : State) :
    (s.refreshLamps).retained = s.retained := rfl

@[simp] theorem State.refreshLamps_store (s : State) :
    (s.refreshLamps).store = s.store := rfl

@[simp] theorem State.refreshLamps_storeFailed (s : State) :
    (s.refreshLamps).storeFailed = s.storeFailed := rfl

@[simp] theorem State.refreshLamps_configured (s : State) :
    (s.refreshLamps).configured = s.configured := rfl

@[simp] theorem State.refreshLamps_working (s : State) :
    (s.refreshLamps).working = s.working := rfl

@[simp] theorem State.refreshLamps_staging (s : State) :
    (s.refreshLamps).staging = s.staging := rfl

@[simp] theorem State.refreshLamps_control (s : State) :
    (s.refreshLamps).control = s.control := rfl

@[simp] theorem State.refreshLamps_vehicle (s : State) :
    (s.refreshLamps).vehicle = s.vehicle := rfl

@[simp] theorem State.refreshLamps_clashes (s : State) :
    (s.refreshLamps).clashes = s.clashes := rfl

@[simp] theorem State.refreshLamps_monitor (s : State) :
    (s.refreshLamps).monitor = s.monitor := rfl

@[simp] theorem State.refreshLamps_cache (s : State) :
    (s.refreshLamps).cache = s.cache := rfl

@[simp] theorem State.refreshLamps_watches (s : State) :
    (s.refreshLamps).watches = s.watches := rfl

@[simp] theorem State.refreshLamps_faults (s : State) :
    (s.refreshLamps).faults = s.faults := rfl

@[simp] theorem State.refreshLamps_writeQueue (s : State) :
    (s.refreshLamps).writeQueue = s.writeQueue := rfl

@[simp] theorem State.refreshLamps_write (s : State) :
    (s.refreshLamps).write = s.write := rfl

@[simp] theorem State.refreshLamps_stepPos (s : State) :
    (s.refreshLamps).stepPos = s.stepPos := rfl

@[simp] theorem State.refreshLamps_boundaryDue (s : State) :
    (s.refreshLamps).boundaryDue = s.boundaryDue := rfl

@[simp] theorem State.refreshLamps_bulbCheck (s : State) :
    (s.refreshLamps).bulbCheck = s.bulbCheck := rfl

@[simp] theorem State.refreshLamps_reports (s : State) :
    (s.refreshLamps).reports = s.reports := rfl

@[simp] theorem State.refreshLamps_reportsDropped (s : State) :
    (s.refreshLamps).reportsDropped = s.reportsDropped := rfl

@[simp] theorem State.refreshLamps_pacer (s : State) :
    (s.refreshLamps).pacer = s.pacer := rfl

@[simp] theorem State.refreshLamps_statusPeriod (s : State) :
    (s.refreshLamps).statusPeriod = s.statusPeriod := rfl

@[simp] theorem State.refreshLamps_responder (s : State) :
    (s.refreshLamps).responder = s.responder := rfl

@[simp] theorem State.refreshLamps_limitPassed (s : State) :
    (s.refreshLamps).limitPassed = s.limitPassed := rfl

@[simp] theorem State.refreshLamps_sampleElapsed (s : State) :
    (s.refreshLamps).sampleElapsed = s.sampleElapsed := rfl

@[simp] theorem State.refreshLamps_keyElapsed (s : State) :
    (s.refreshLamps).keyElapsed = s.keyElapsed := rfl

@[simp] theorem State.refreshLamps_lampElapsed (s : State) :
    (s.refreshLamps).lampElapsed = s.lampElapsed := rfl

@[simp] theorem State.refreshLamps_statusElapsed (s : State) :
    (s.refreshLamps).statusElapsed = s.statusElapsed := rfl

@[simp] theorem State.refreshLamps_afterRunElapsed (s : State) :
    (s.refreshLamps).afterRunElapsed = s.afterRunElapsed := rfl

@[simp] theorem State.refreshLamps_free (s : State) :
    (s.refreshLamps).free = s.free := rfl

@[simp] theorem State.refreshLamps_pending (s : State) :
    (s.refreshLamps).pending = s.pending := rfl

/-! ### `State.placeLamps` -/

@[simp] theorem State.placeLamps_power (s : State) :
    (s.placeLamps).power = s.power := rfl

@[simp] theorem State.placeLamps_stage (s : State) :
    (s.placeLamps).stage = s.stage := rfl

@[simp] theorem State.placeLamps_resetKind (s : State) :
    (s.placeLamps).resetKind = s.resetKind := rfl

@[simp] theorem State.placeLamps_battery (s : State) :
    (s.placeLamps).battery = s.battery := rfl

@[simp] theorem State.placeLamps_band (s : State) :
    (s.placeLamps).band = s.band := rfl

@[simp] theorem State.placeLamps_sampleCount (s : State) :
    (s.placeLamps).sampleCount = s.sampleCount := rfl

@[simp] theorem State.placeLamps_keyLine (s : State) :
    (s.placeLamps).keyLine = s.keyLine := rfl

@[simp] theorem State.placeLamps_keySettled (s : State) :
    (s.placeLamps).keySettled = s.keySettled := rfl

@[simp] theorem State.placeLamps_timebase (s : State) :
    (s.placeLamps).timebase = s.timebase := rfl

@[simp] theorem State.placeLamps_degraded (s : State) :
    (s.placeLamps).degraded = s.degraded := rfl

@[simp] theorem State.placeLamps_crystalRuns (s : State) :
    (s.placeLamps).crystalRuns = s.crystalRuns := rfl

@[simp] theorem State.placeLamps_retained (s : State) :
    (s.placeLamps).retained = s.retained := rfl

@[simp] theorem State.placeLamps_store (s : State) :
    (s.placeLamps).store = s.store := rfl

@[simp] theorem State.placeLamps_storeFailed (s : State) :
    (s.placeLamps).storeFailed = s.storeFailed := rfl

@[simp] theorem State.placeLamps_configured (s : State) :
    (s.placeLamps).configured = s.configured := rfl

@[simp] theorem State.placeLamps_working (s : State) :
    (s.placeLamps).working = s.working := rfl

@[simp] theorem State.placeLamps_staging (s : State) :
    (s.placeLamps).staging = s.staging := rfl

@[simp] theorem State.placeLamps_control (s : State) :
    (s.placeLamps).control = s.control := rfl

@[simp] theorem State.placeLamps_vehicle (s : State) :
    (s.placeLamps).vehicle = s.vehicle := rfl

@[simp] theorem State.placeLamps_clashes (s : State) :
    (s.placeLamps).clashes = s.clashes := rfl

@[simp] theorem State.placeLamps_monitor (s : State) :
    (s.placeLamps).monitor = s.monitor := rfl

@[simp] theorem State.placeLamps_cache (s : State) :
    (s.placeLamps).cache = s.cache := rfl

@[simp] theorem State.placeLamps_watches (s : State) :
    (s.placeLamps).watches = s.watches := rfl

@[simp] theorem State.placeLamps_faults (s : State) :
    (s.placeLamps).faults = s.faults := rfl

@[simp] theorem State.placeLamps_writeQueue (s : State) :
    (s.placeLamps).writeQueue = s.writeQueue := rfl

@[simp] theorem State.placeLamps_write (s : State) :
    (s.placeLamps).write = s.write := rfl

@[simp] theorem State.placeLamps_stepPos (s : State) :
    (s.placeLamps).stepPos = s.stepPos := rfl

@[simp] theorem State.placeLamps_boundaryDue (s : State) :
    (s.placeLamps).boundaryDue = s.boundaryDue := rfl

@[simp] theorem State.placeLamps_bulbCheck (s : State) :
    (s.placeLamps).bulbCheck = s.bulbCheck := rfl

@[simp] theorem State.placeLamps_reports (s : State) :
    (s.placeLamps).reports = s.reports := rfl

@[simp] theorem State.placeLamps_reportsDropped (s : State) :
    (s.placeLamps).reportsDropped = s.reportsDropped := rfl

@[simp] theorem State.placeLamps_pacer (s : State) :
    (s.placeLamps).pacer = s.pacer := rfl

@[simp] theorem State.placeLamps_statusPeriod (s : State) :
    (s.placeLamps).statusPeriod = s.statusPeriod := rfl

@[simp] theorem State.placeLamps_responder (s : State) :
    (s.placeLamps).responder = s.responder := rfl

@[simp] theorem State.placeLamps_limitPassed (s : State) :
    (s.placeLamps).limitPassed = s.limitPassed := rfl

@[simp] theorem State.placeLamps_sampleElapsed (s : State) :
    (s.placeLamps).sampleElapsed = s.sampleElapsed := rfl

@[simp] theorem State.placeLamps_keyElapsed (s : State) :
    (s.placeLamps).keyElapsed = s.keyElapsed := rfl

@[simp] theorem State.placeLamps_lampElapsed (s : State) :
    (s.placeLamps).lampElapsed = s.lampElapsed := rfl

@[simp] theorem State.placeLamps_statusElapsed (s : State) :
    (s.placeLamps).statusElapsed = s.statusElapsed := rfl

@[simp] theorem State.placeLamps_afterRunElapsed (s : State) :
    (s.placeLamps).afterRunElapsed = s.afterRunElapsed := rfl

@[simp] theorem State.placeLamps_free (s : State) :
    (s.placeLamps).free = s.free := rfl

@[simp] theorem State.placeLamps_pending (s : State) :
    (s.placeLamps).pending = s.pending := rfl

/-! ### `State.cycleLamps` -/

@[simp] theorem State.cycleLamps_power (s : State) :
    (s.cycleLamps).power = s.power := rfl

@[simp] theorem State.cycleLamps_stage (s : State) :
    (s.cycleLamps).stage = s.stage := rfl

@[simp] theorem State.cycleLamps_resetKind (s : State) :
    (s.cycleLamps).resetKind = s.resetKind := rfl

@[simp] theorem State.cycleLamps_battery (s : State) :
    (s.cycleLamps).battery = s.battery := rfl

@[simp] theorem State.cycleLamps_band (s : State) :
    (s.cycleLamps).band = s.band := rfl

@[simp] theorem State.cycleLamps_sampleCount (s : State) :
    (s.cycleLamps).sampleCount = s.sampleCount := rfl

@[simp] theorem State.cycleLamps_keyLine (s : State) :
    (s.cycleLamps).keyLine = s.keyLine := rfl

@[simp] theorem State.cycleLamps_keySettled (s : State) :
    (s.cycleLamps).keySettled = s.keySettled := rfl

@[simp] theorem State.cycleLamps_timebase (s : State) :
    (s.cycleLamps).timebase = s.timebase := rfl

@[simp] theorem State.cycleLamps_degraded (s : State) :
    (s.cycleLamps).degraded = s.degraded := rfl

@[simp] theorem State.cycleLamps_crystalRuns (s : State) :
    (s.cycleLamps).crystalRuns = s.crystalRuns := rfl

@[simp] theorem State.cycleLamps_retained (s : State) :
    (s.cycleLamps).retained = s.retained := rfl

@[simp] theorem State.cycleLamps_store (s : State) :
    (s.cycleLamps).store = s.store := rfl

@[simp] theorem State.cycleLamps_storeFailed (s : State) :
    (s.cycleLamps).storeFailed = s.storeFailed := rfl

@[simp] theorem State.cycleLamps_configured (s : State) :
    (s.cycleLamps).configured = s.configured := rfl

@[simp] theorem State.cycleLamps_working (s : State) :
    (s.cycleLamps).working = s.working := rfl

@[simp] theorem State.cycleLamps_staging (s : State) :
    (s.cycleLamps).staging = s.staging := rfl

@[simp] theorem State.cycleLamps_control (s : State) :
    (s.cycleLamps).control = s.control := rfl

@[simp] theorem State.cycleLamps_vehicle (s : State) :
    (s.cycleLamps).vehicle = s.vehicle := rfl

@[simp] theorem State.cycleLamps_clashes (s : State) :
    (s.cycleLamps).clashes = s.clashes := rfl

@[simp] theorem State.cycleLamps_monitor (s : State) :
    (s.cycleLamps).monitor = s.monitor := rfl

@[simp] theorem State.cycleLamps_cache (s : State) :
    (s.cycleLamps).cache = s.cache := rfl

@[simp] theorem State.cycleLamps_watches (s : State) :
    (s.cycleLamps).watches = s.watches := rfl

@[simp] theorem State.cycleLamps_faults (s : State) :
    (s.cycleLamps).faults = s.faults := rfl

@[simp] theorem State.cycleLamps_writeQueue (s : State) :
    (s.cycleLamps).writeQueue = s.writeQueue := rfl

@[simp] theorem State.cycleLamps_write (s : State) :
    (s.cycleLamps).write = s.write := rfl

@[simp] theorem State.cycleLamps_stepPos (s : State) :
    (s.cycleLamps).stepPos = s.stepPos := rfl

@[simp] theorem State.cycleLamps_boundaryDue (s : State) :
    (s.cycleLamps).boundaryDue = s.boundaryDue := rfl

@[simp] theorem State.cycleLamps_bulbCheck (s : State) :
    (s.cycleLamps).bulbCheck = s.bulbCheck := rfl

@[simp] theorem State.cycleLamps_reports (s : State) :
    (s.cycleLamps).reports = s.reports := rfl

@[simp] theorem State.cycleLamps_reportsDropped (s : State) :
    (s.cycleLamps).reportsDropped = s.reportsDropped := rfl

@[simp] theorem State.cycleLamps_pacer (s : State) :
    (s.cycleLamps).pacer = s.pacer := rfl

@[simp] theorem State.cycleLamps_statusPeriod (s : State) :
    (s.cycleLamps).statusPeriod = s.statusPeriod := rfl

@[simp] theorem State.cycleLamps_responder (s : State) :
    (s.cycleLamps).responder = s.responder := rfl

@[simp] theorem State.cycleLamps_limitPassed (s : State) :
    (s.cycleLamps).limitPassed = s.limitPassed := rfl

@[simp] theorem State.cycleLamps_sampleElapsed (s : State) :
    (s.cycleLamps).sampleElapsed = s.sampleElapsed := rfl

@[simp] theorem State.cycleLamps_keyElapsed (s : State) :
    (s.cycleLamps).keyElapsed = s.keyElapsed := rfl

@[simp] theorem State.cycleLamps_lampElapsed (s : State) :
    (s.cycleLamps).lampElapsed = s.lampElapsed := rfl

@[simp] theorem State.cycleLamps_statusElapsed (s : State) :
    (s.cycleLamps).statusElapsed = s.statusElapsed := rfl

@[simp] theorem State.cycleLamps_afterRunElapsed (s : State) :
    (s.cycleLamps).afterRunElapsed = s.afterRunElapsed := rfl

@[simp] theorem State.cycleLamps_free (s : State) :
    (s.cycleLamps).free = s.free := rfl

@[simp] theorem State.cycleLamps_pending (s : State) :
    (s.cycleLamps).pending = s.pending := rfl

/-! ### `State.loseRetained` -/

@[simp] theorem State.loseRetained_power (s : State) :
    (s.loseRetained).power = s.power := rfl

@[simp] theorem State.loseRetained_stage (s : State) :
    (s.loseRetained).stage = s.stage := rfl

@[simp] theorem State.loseRetained_resetKind (s : State) :
    (s.loseRetained).resetKind = s.resetKind := rfl

@[simp] theorem State.loseRetained_battery (s : State) :
    (s.loseRetained).battery = s.battery := rfl

@[simp] theorem State.loseRetained_band (s : State) :
    (s.loseRetained).band = s.band := rfl

@[simp] theorem State.loseRetained_sampleCount (s : State) :
    (s.loseRetained).sampleCount = s.sampleCount := rfl

@[simp] theorem State.loseRetained_keyLine (s : State) :
    (s.loseRetained).keyLine = s.keyLine := rfl

@[simp] theorem State.loseRetained_keySettled (s : State) :
    (s.loseRetained).keySettled = s.keySettled := rfl

@[simp] theorem State.loseRetained_timebase (s : State) :
    (s.loseRetained).timebase = s.timebase := rfl

@[simp] theorem State.loseRetained_degraded (s : State) :
    (s.loseRetained).degraded = s.degraded := rfl

@[simp] theorem State.loseRetained_crystalRuns (s : State) :
    (s.loseRetained).crystalRuns = s.crystalRuns := rfl

@[simp] theorem State.loseRetained_store (s : State) :
    (s.loseRetained).store = s.store := rfl

@[simp] theorem State.loseRetained_storeFailed (s : State) :
    (s.loseRetained).storeFailed = s.storeFailed := rfl

@[simp] theorem State.loseRetained_configured (s : State) :
    (s.loseRetained).configured = s.configured := rfl

@[simp] theorem State.loseRetained_working (s : State) :
    (s.loseRetained).working = s.working := rfl

@[simp] theorem State.loseRetained_staging (s : State) :
    (s.loseRetained).staging = s.staging := rfl

@[simp] theorem State.loseRetained_control (s : State) :
    (s.loseRetained).control = s.control := rfl

@[simp] theorem State.loseRetained_vehicle (s : State) :
    (s.loseRetained).vehicle = s.vehicle := rfl

@[simp] theorem State.loseRetained_clashes (s : State) :
    (s.loseRetained).clashes = s.clashes := rfl

@[simp] theorem State.loseRetained_monitor (s : State) :
    (s.loseRetained).monitor = s.monitor := rfl

@[simp] theorem State.loseRetained_cache (s : State) :
    (s.loseRetained).cache = s.cache := rfl

@[simp] theorem State.loseRetained_watches (s : State) :
    (s.loseRetained).watches = s.watches := rfl

@[simp] theorem State.loseRetained_faults (s : State) :
    (s.loseRetained).faults = s.faults := rfl

@[simp] theorem State.loseRetained_writeQueue (s : State) :
    (s.loseRetained).writeQueue = s.writeQueue := rfl

@[simp] theorem State.loseRetained_write (s : State) :
    (s.loseRetained).write = s.write := rfl

@[simp] theorem State.loseRetained_engineLamp (s : State) :
    (s.loseRetained).engineLamp = s.engineLamp := rfl

@[simp] theorem State.loseRetained_brakeLamp (s : State) :
    (s.loseRetained).brakeLamp = s.brakeLamp := rfl

@[simp] theorem State.loseRetained_stepPos (s : State) :
    (s.loseRetained).stepPos = s.stepPos := rfl

@[simp] theorem State.loseRetained_boundaryDue (s : State) :
    (s.loseRetained).boundaryDue = s.boundaryDue := rfl

@[simp] theorem State.loseRetained_bulbCheck (s : State) :
    (s.loseRetained).bulbCheck = s.bulbCheck := rfl

@[simp] theorem State.loseRetained_reports (s : State) :
    (s.loseRetained).reports = s.reports := rfl

@[simp] theorem State.loseRetained_reportsDropped (s : State) :
    (s.loseRetained).reportsDropped = s.reportsDropped := rfl

@[simp] theorem State.loseRetained_pacer (s : State) :
    (s.loseRetained).pacer = s.pacer := rfl

@[simp] theorem State.loseRetained_statusPeriod (s : State) :
    (s.loseRetained).statusPeriod = s.statusPeriod := rfl

@[simp] theorem State.loseRetained_responder (s : State) :
    (s.loseRetained).responder = s.responder := rfl

@[simp] theorem State.loseRetained_limitPassed (s : State) :
    (s.loseRetained).limitPassed = s.limitPassed := rfl

@[simp] theorem State.loseRetained_sampleElapsed (s : State) :
    (s.loseRetained).sampleElapsed = s.sampleElapsed := rfl

@[simp] theorem State.loseRetained_keyElapsed (s : State) :
    (s.loseRetained).keyElapsed = s.keyElapsed := rfl

@[simp] theorem State.loseRetained_lampElapsed (s : State) :
    (s.loseRetained).lampElapsed = s.lampElapsed := rfl

@[simp] theorem State.loseRetained_statusElapsed (s : State) :
    (s.loseRetained).statusElapsed = s.statusElapsed := rfl

@[simp] theorem State.loseRetained_afterRunElapsed (s : State) :
    (s.loseRetained).afterRunElapsed = s.afterRunElapsed := rfl

@[simp] theorem State.loseRetained_pending (s : State) :
    (s.loseRetained).pending = s.pending := rfl

/-! ### What the updates set -/

@[simp] theorem State.withResponder_responder (s : State) (r : Responder) :
    (s.withResponder r).responder = r := rfl

@[simp] theorem State.withRetained_retained (s : State) (r : Retained) :
    (s.withRetained r).retained = r := rfl

@[simp] theorem State.withQueue_writeQueue (s : State) (q : List WriteEntry) :
    (s.withQueue q).writeQueue = q := rfl

@[simp] theorem State.withSlots_slots (s : State) (x : List Slot) :
    (s.withSlots x).retained.slots = x := rfl

@[simp] theorem State.setPort_port_same (s : State) (p : Port) (r : PortRecord) :
    (s.setPort p r).port p = r := by cases p <;> rfl

@[simp] theorem State.setPort_port_opposite (s : State) (p : Port) (r : PortRecord) :
    (s.setPort p r).port p.opposite = s.port p.opposite := by cases p <;> rfl

@[simp] theorem State.setPort_control_vehicle (s : State) (r : PortRecord) :
    (s.setPort .control r).vehicle = s.vehicle := rfl

@[simp] theorem State.setPort_vehicle_control (s : State) (r : PortRecord) :
    (s.setPort .vehicle r).control = s.control := rfl

@[simp] theorem State.setPort_control_control (s : State) (r : PortRecord) :
    (s.setPort .control r).control = r := rfl

@[simp] theorem State.setPort_vehicle_vehicle (s : State) (r : PortRecord) :
    (s.setPort .vehicle r).vehicle = r := rfl

end Sys2Proof.Machine
end

