-- ==== Sys2Proof/Laws/Events.lean ====
section
/-! SUPPORT. What an event over the watches leaves as it is, and what the shared operations on ports and the responder
can do. -/

namespace Sys2Proof.Machine

/-! ### `State.handOn` -/

@[simp] theorem State.handOn_power (s : State) (hs : List Handed) :
    (s.handOn hs).power = s.power := rfl

@[simp] theorem State.handOn_stage (s : State) (hs : List Handed) :
    (s.handOn hs).stage = s.stage := rfl

@[simp] theorem State.handOn_resetKind (s : State) (hs : List Handed) :
    (s.handOn hs).resetKind = s.resetKind := rfl

@[simp] theorem State.handOn_battery (s : State) (hs : List Handed) :
    (s.handOn hs).battery = s.battery := rfl

@[simp] theorem State.handOn_band (s : State) (hs : List Handed) :
    (s.handOn hs).band = s.band := rfl

@[simp] theorem State.handOn_sampleCount (s : State) (hs : List Handed) :
    (s.handOn hs).sampleCount = s.sampleCount := rfl

@[simp] theorem State.handOn_keyLine (s : State) (hs : List Handed) :
    (s.handOn hs).keyLine = s.keyLine := rfl

@[simp] theorem State.handOn_keySettled (s : State) (hs : List Handed) :
    (s.handOn hs).keySettled = s.keySettled := rfl

@[simp] theorem State.handOn_timebase (s : State) (hs : List Handed) :
    (s.handOn hs).timebase = s.timebase := rfl

@[simp] theorem State.handOn_degraded (s : State) (hs : List Handed) :
    (s.handOn hs).degraded = s.degraded := rfl

@[simp] theorem State.handOn_crystalRuns (s : State) (hs : List Handed) :
    (s.handOn hs).crystalRuns = s.crystalRuns := rfl

@[simp] theorem State.handOn_store (s : State) (hs : List Handed) :
    (s.handOn hs).store = s.store := rfl

@[simp] theorem State.handOn_storeFailed (s : State) (hs : List Handed) :
    (s.handOn hs).storeFailed = s.storeFailed := rfl

@[simp] theorem State.handOn_configured (s : State) (hs : List Handed) :
    (s.handOn hs).configured = s.configured := rfl

@[simp] theorem State.handOn_working (s : State) (hs : List Handed) :
    (s.handOn hs).working = s.working := rfl

@[simp] theorem State.handOn_staging (s : State) (hs : List Handed) :
    (s.handOn hs).staging = s.staging := rfl

@[simp] theorem State.handOn_control (s : State) (hs : List Handed) :
    (s.handOn hs).control = s.control := rfl

@[simp] theorem State.handOn_vehicle (s : State) (hs : List Handed) :
    (s.handOn hs).vehicle = s.vehicle := rfl

@[simp] theorem State.handOn_clashes (s : State) (hs : List Handed) :
    (s.handOn hs).clashes = s.clashes := rfl

@[simp] theorem State.handOn_monitor (s : State) (hs : List Handed) :
    (s.handOn hs).monitor = s.monitor := rfl

@[simp] theorem State.handOn_cache (s : State) (hs : List Handed) :
    (s.handOn hs).cache = s.cache := rfl

@[simp] theorem State.handOn_watches (s : State) (hs : List Handed) :
    (s.handOn hs).watches = s.watches := rfl

@[simp] theorem State.handOn_faults (s : State) (hs : List Handed) :
    (s.handOn hs).faults = s.faults := rfl

@[simp] theorem State.handOn_write (s : State) (hs : List Handed) :
    (s.handOn hs).write = s.write := rfl

@[simp] theorem State.handOn_engineLamp (s : State) (hs : List Handed) :
    (s.handOn hs).engineLamp = s.engineLamp := rfl

@[simp] theorem State.handOn_brakeLamp (s : State) (hs : List Handed) :
    (s.handOn hs).brakeLamp = s.brakeLamp := rfl

@[simp] theorem State.handOn_stepPos (s : State) (hs : List Handed) :
    (s.handOn hs).stepPos = s.stepPos := rfl

@[simp] theorem State.handOn_boundaryDue (s : State) (hs : List Handed) :
    (s.handOn hs).boundaryDue = s.boundaryDue := rfl

@[simp] theorem State.handOn_bulbCheck (s : State) (hs : List Handed) :
    (s.handOn hs).bulbCheck = s.bulbCheck := rfl

@[simp] theorem State.handOn_pacer (s : State) (hs : List Handed) :
    (s.handOn hs).pacer = s.pacer := rfl

@[simp] theorem State.handOn_statusPeriod (s : State) (hs : List Handed) :
    (s.handOn hs).statusPeriod = s.statusPeriod := rfl

@[simp] theorem State.handOn_responder (s : State) (hs : List Handed) :
    (s.handOn hs).responder = s.responder := rfl

@[simp] theorem State.handOn_limitPassed (s : State) (hs : List Handed) :
    (s.handOn hs).limitPassed = s.limitPassed := rfl

@[simp] theorem State.handOn_sampleElapsed (s : State) (hs : List Handed) :
    (s.handOn hs).sampleElapsed = s.sampleElapsed := rfl

@[simp] theorem State.handOn_keyElapsed (s : State) (hs : List Handed) :
    (s.handOn hs).keyElapsed = s.keyElapsed := rfl

@[simp] theorem State.handOn_lampElapsed (s : State) (hs : List Handed) :
    (s.handOn hs).lampElapsed = s.lampElapsed := rfl

@[simp] theorem State.handOn_statusElapsed (s : State) (hs : List Handed) :
    (s.handOn hs).statusElapsed = s.statusElapsed := rfl

@[simp] theorem State.handOn_afterRunElapsed (s : State) (hs : List Handed) :
    (s.handOn hs).afterRunElapsed = s.afterRunElapsed := rfl

@[simp] theorem State.handOn_pending (s : State) (hs : List Handed) :
    (s.handOn hs).pending = s.pending := rfl

/-! ### `State.applySamples` -/

@[simp] theorem State.applySamples_power (s : State) (x : List (Nat × Bool)) :
    (s.applySamples x).power = s.power := rfl

@[simp] theorem State.applySamples_stage (s : State) (x : List (Nat × Bool)) :
    (s.applySamples x).stage = s.stage := rfl

@[simp] theorem State.applySamples_resetKind (s : State) (x : List (Nat × Bool)) :
    (s.applySamples x).resetKind = s.resetKind := rfl

@[simp] theorem State.applySamples_battery (s : State) (x : List (Nat × Bool)) :
    (s.applySamples x).battery = s.battery := rfl

@[simp] theorem State.applySamples_band (s : State) (x : List (Nat × Bool)) :
    (s.applySamples x).band = s.band := rfl

@[simp] theorem State.applySamples_sampleCount (s : State) (x : List (Nat × Bool)) :
    (s.applySamples x).sampleCount = s.sampleCount := rfl

@[simp] theorem State.applySamples_keyLine (s : State) (x : List (Nat × Bool)) :
    (s.applySamples x).keyLine = s.keyLine := rfl

@[simp] theorem State.applySamples_keySettled (s : State) (x : List (Nat × Bool)) :
    (s.applySamples x).keySettled = s.keySettled := rfl

@[simp] theorem State.applySamples_timebase (s : State) (x : List (Nat × Bool)) :
    (s.applySamples x).timebase = s.timebase := rfl

@[simp] theorem State.applySamples_degraded (s : State) (x : List (Nat × Bool)) :
    (s.applySamples x).degraded = s.degraded := rfl

@[simp] theorem State.applySamples_crystalRuns (s : State) (x : List (Nat × Bool)) :
    (s.applySamples x).crystalRuns = s.crystalRuns := rfl

@[simp] theorem State.applySamples_store (s : State) (x : List (Nat × Bool)) :
    (s.applySamples x).store = s.store := rfl

@[simp] theorem State.applySamples_storeFailed (s : State) (x : List (Nat × Bool)) :
    (s.applySamples x).storeFailed = s.storeFailed := rfl

@[simp] theorem State.applySamples_configured (s : State) (x : List (Nat × Bool)) :
    (s.applySamples x).configured = s.configured := rfl

@[simp] theorem State.applySamples_working (s : State) (x : List (Nat × Bool)) :
    (s.applySamples x).working = s.working := rfl

@[simp] theorem State.applySamples_staging (s : State) (x : List (Nat × Bool)) :
    (s.applySamples x).staging = s.staging := rfl

@[simp] theorem State.applySamples_control (s : State) (x : List (Nat × Bool)) :
    (s.applySamples x).control = s.control := rfl

@[simp] theorem State.applySamples_vehicle (s : State) (x : List (Nat × Bool)) :
    (s.applySamples x).vehicle = s.vehicle := rfl

@[simp] theorem State.applySamples_clashes (s : State) (x : List (Nat × Bool)) :
    (s.applySamples x).clashes = s.clashes := rfl

@[simp] theorem State.applySamples_monitor (s : State) (x : List (Nat × Bool)) :
    (s.applySamples x).monitor = s.monitor := rfl

@[simp] theorem State.applySamples_cache (s : State) (x : List (Nat × Bool)) :
    (s.applySamples x).cache = s.cache := rfl

@[simp] theorem State.applySamples_watches (s : State) (x : List (Nat × Bool)) :
    (s.applySamples x).watches = s.watches := rfl

@[simp] theorem State.applySamples_write (s : State) (x : List (Nat × Bool)) :
    (s.applySamples x).write = s.write := rfl

@[simp] theorem State.applySamples_stepPos (s : State) (x : List (Nat × Bool)) :
    (s.applySamples x).stepPos = s.stepPos := rfl

@[simp] theorem State.applySamples_boundaryDue (s : State) (x : List (Nat × Bool)) :
    (s.applySamples x).boundaryDue = s.boundaryDue := rfl

@[simp] theorem State.applySamples_bulbCheck (s : State) (x : List (Nat × Bool)) :
    (s.applySamples x).bulbCheck = s.bulbCheck := rfl

@[simp] theorem State.applySamples_pacer (s : State) (x : List (Nat × Bool)) :
    (s.applySamples x).pacer = s.pacer := rfl

@[simp] theorem State.applySamples_statusPeriod (s : State) (x : List (Nat × Bool)) :
    (s.applySamples x).statusPeriod = s.statusPeriod := rfl

@[simp] theorem State.applySamples_responder (s : State) (x : List (Nat × Bool)) :
    (s.applySamples x).responder = s.responder := rfl

@[simp] theorem State.applySamples_limitPassed (s : State) (x : List (Nat × Bool)) :
    (s.applySamples x).limitPassed = s.limitPassed := rfl

@[simp] theorem State.applySamples_sampleElapsed (s : State) (x : List (Nat × Bool)) :
    (s.applySamples x).sampleElapsed = s.sampleElapsed := rfl

@[simp] theorem State.applySamples_keyElapsed (s : State) (x : List (Nat × Bool)) :
    (s.applySamples x).keyElapsed = s.keyElapsed := rfl

@[simp] theorem State.applySamples_lampElapsed (s : State) (x : List (Nat × Bool)) :
    (s.applySamples x).lampElapsed = s.lampElapsed := rfl

@[simp] theorem State.applySamples_statusElapsed (s : State) (x : List (Nat × Bool)) :
    (s.applySamples x).statusElapsed = s.statusElapsed := rfl

@[simp] theorem State.applySamples_afterRunElapsed (s : State) (x : List (Nat × Bool)) :
    (s.applySamples x).afterRunElapsed = s.afterRunElapsed := rfl

@[simp] theorem State.applySamples_pending (s : State) (x : List (Nat × Bool)) :
    (s.applySamples x).pending = s.pending := rfl

/-! ### `State.watchEvent` -/

@[simp] theorem State.watchEvent_power (s : State) (r : WatchEntry → Option Reach) :
    (s.watchEvent r).power = s.power := rfl

@[simp] theorem State.watchEvent_stage (s : State) (r : WatchEntry → Option Reach) :
    (s.watchEvent r).stage = s.stage := rfl

@[simp] theorem State.watchEvent_resetKind (s : State) (r : WatchEntry → Option Reach) :
    (s.watchEvent r).resetKind = s.resetKind := rfl

@[simp] theorem State.watchEvent_battery (s : State) (r : WatchEntry → Option Reach) :
    (s.watchEvent r).battery = s.battery := rfl

@[simp] theorem State.watchEvent_band (s : State) (r : WatchEntry → Option Reach) :
    (s.watchEvent r).band = s.band := rfl

@[simp] theorem State.watchEvent_sampleCount (s : State) (r : WatchEntry → Option Reach) :
    (s.watchEvent r).sampleCount = s.sampleCount := rfl

@[simp] theorem State.watchEvent_keyLine (s : State) (r : WatchEntry → Option Reach) :
    (s.watchEvent r).keyLine = s.keyLine := rfl

@[simp] theorem State.watchEvent_keySettled (s : State) (r : WatchEntry → Option Reach) :
    (s.watchEvent r).keySettled = s.keySettled := rfl

@[simp] theorem State.watchEvent_timebase (s : State) (r : WatchEntry → Option Reach) :
    (s.watchEvent r).timebase = s.timebase := rfl

@[simp] theorem State.watchEvent_degraded (s : State) (r : WatchEntry → Option Reach) :
    (s.watchEvent r).degraded = s.degraded := rfl

@[simp] theorem State.watchEvent_crystalRuns (s : State) (r : WatchEntry → Option Reach) :
    (s.watchEvent r).crystalRuns = s.crystalRuns := rfl

@[simp] theorem State.watchEvent_store (s : State) (r : WatchEntry → Option Reach) :
    (s.watchEvent r).store = s.store := rfl

@[simp] theorem State.watchEvent_storeFailed (s : State) (r : WatchEntry → Option Reach) :
    (s.watchEvent r).storeFailed = s.storeFailed := rfl

@[simp] theorem State.watchEvent_configured (s : State) (r : WatchEntry → Option Reach) :
    (s.watchEvent r).configured = s.configured := rfl

@[simp] theorem State.watchEvent_working (s : State) (r : WatchEntry → Option Reach) :
    (s.watchEvent r).working = s.working := rfl

@[simp] theorem State.watchEvent_staging (s : State) (r : WatchEntry → Option Reach) :
    (s.watchEvent r).staging = s.staging := rfl

@[simp] theorem State.watchEvent_control (s : State) (r : WatchEntry → Option Reach) :
    (s.watchEvent r).control = s.control := rfl

@[simp] theorem State.watchEvent_vehicle (s : State) (r : WatchEntry → Option Reach) :
    (s.watchEvent r).vehicle = s.vehicle := rfl

@[simp] theorem State.watchEvent_clashes (s : State) (r : WatchEntry → Option Reach) :
    (s.watchEvent r).clashes = s.clashes := rfl

@[simp] theorem State.watchEvent_monitor (s : State) (r : WatchEntry → Option Reach) :
    (s.watchEvent r).monitor = s.monitor := rfl

@[simp] theorem State.watchEvent_cache (s : State) (r : WatchEntry → Option Reach) :
    (s.watchEvent r).cache = s.cache := rfl

@[simp] theorem State.watchEvent_write (s : State) (r : WatchEntry → Option Reach) :
    (s.watchEvent r).write = s.write := rfl

@[simp] theorem State.watchEvent_stepPos (s : State) (r : WatchEntry → Option Reach) :
    (s.watchEvent r).stepPos = s.stepPos := rfl

@[simp] theorem State.watchEvent_boundaryDue (s : State) (r : WatchEntry → Option Reach) :
    (s.watchEvent r).boundaryDue = s.boundaryDue := rfl

@[simp] theorem State.watchEvent_bulbCheck (s : State) (r : WatchEntry → Option Reach) :
    (s.watchEvent r).bulbCheck = s.bulbCheck := rfl

@[simp] theorem State.watchEvent_pacer (s : State) (r : WatchEntry → Option Reach) :
    (s.watchEvent r).pacer = s.pacer := rfl

@[simp] theorem State.watchEvent_statusPeriod (s : State) (r : WatchEntry → Option Reach) :
    (s.watchEvent r).statusPeriod = s.statusPeriod := rfl

@[simp] theorem State.watchEvent_responder (s : State) (r : WatchEntry → Option Reach) :
    (s.watchEvent r).responder = s.responder := rfl

@[simp] theorem State.watchEvent_limitPassed (s : State) (r : WatchEntry → Option Reach) :
    (s.watchEvent r).limitPassed = s.limitPassed := rfl

@[simp] theorem State.watchEvent_sampleElapsed (s : State) (r : WatchEntry → Option Reach) :
    (s.watchEvent r).sampleElapsed = s.sampleElapsed := rfl

@[simp] theorem State.watchEvent_keyElapsed (s : State) (r : WatchEntry → Option Reach) :
    (s.watchEvent r).keyElapsed = s.keyElapsed := rfl

@[simp] theorem State.watchEvent_lampElapsed (s : State) (r : WatchEntry → Option Reach) :
    (s.watchEvent r).lampElapsed = s.lampElapsed := rfl

@[simp] theorem State.watchEvent_statusElapsed (s : State) (r : WatchEntry → Option Reach) :
    (s.watchEvent r).statusElapsed = s.statusElapsed := rfl

@[simp] theorem State.watchEvent_afterRunElapsed (s : State) (r : WatchEntry → Option Reach) :
    (s.watchEvent r).afterRunElapsed = s.afterRunElapsed := rfl

@[simp] theorem State.watchEvent_pending (s : State) (r : WatchEntry → Option Reach) :
    (s.watchEvent r).pending = s.pending := rfl

/-! ### `State.settleTimebase` -/

@[simp] theorem State.settleTimebase_power (s : State) :
    (s.settleTimebase).power = s.power := by
  unfold State.settleTimebase; split <;> rfl

@[simp] theorem State.settleTimebase_stage (s : State) :
    (s.settleTimebase).stage = s.stage := by
  unfold State.settleTimebase; split <;> rfl

@[simp] theorem State.settleTimebase_resetKind (s : State) :
    (s.settleTimebase).resetKind = s.resetKind := by
  unfold State.settleTimebase; split <;> rfl

@[simp] theorem State.settleTimebase_battery (s : State) :
    (s.settleTimebase).battery = s.battery := by
  unfold State.settleTimebase; split <;> rfl

@[simp] theorem State.settleTimebase_band (s : State) :
    (s.settleTimebase).band = s.band := by
  unfold State.settleTimebase; split <;> rfl

@[simp] theorem State.settleTimebase_sampleCount (s : State) :
    (s.settleTimebase).sampleCount = s.sampleCount := by
  unfold State.settleTimebase; split <;> rfl

@[simp] theorem State.settleTimebase_keyLine (s : State) :
    (s.settleTimebase).keyLine = s.keyLine := by
  unfold State.settleTimebase; split <;> rfl

@[simp] theorem State.settleTimebase_keySettled (s : State) :
    (s.settleTimebase).keySettled = s.keySettled := by
  unfold State.settleTimebase; split <;> rfl

@[simp] theorem State.settleTimebase_retained (s : State) :
    (s.settleTimebase).retained = s.retained := by
  unfold State.settleTimebase; split <;> rfl

@[simp] theorem State.settleTimebase_store (s : State) :
    (s.settleTimebase).store = s.store := by
  unfold State.settleTimebase; split <;> rfl

@[simp] theorem State.settleTimebase_storeFailed (s : State) :
    (s.settleTimebase).storeFailed = s.storeFailed := by
  unfold State.settleTimebase; split <;> rfl

@[simp] theorem State.settleTimebase_configured (s : State) :
    (s.settleTimebase).configured = s.configured := by
  unfold State.settleTimebase; split <;> rfl

@[simp] theorem State.settleTimebase_working (s : State) :
    (s.settleTimebase).working = s.working := by
  unfold State.settleTimebase; split <;> rfl

@[simp] theorem State.settleTimebase_staging (s : State) :
    (s.settleTimebase).staging = s.staging := by
  unfold State.settleTimebase; split <;> rfl

@[simp] theorem State.settleTimebase_control (s : State) :
    (s.settleTimebase).control = s.control := by
  unfold State.settleTimebase; split <;> rfl

@[simp] theorem State.settleTimebase_vehicle (s : State) :
    (s.settleTimebase).vehicle = s.vehicle := by
  unfold State.settleTimebase; split <;> rfl

@[simp] theorem State.settleTimebase_clashes (s : State) :
    (s.settleTimebase).clashes = s.clashes := by
  unfold State.settleTimebase; split <;> rfl

@[simp] theorem State.settleTimebase_monitor (s : State) :
    (s.settleTimebase).monitor = s.monitor := by
  unfold State.settleTimebase; split <;> rfl

@[simp] theorem State.settleTimebase_cache (s : State) :
    (s.settleTimebase).cache = s.cache := by
  unfold State.settleTimebase; split <;> rfl

@[simp] theorem State.settleTimebase_watches (s : State) :
    (s.settleTimebase).watches = s.watches := by
  unfold State.settleTimebase; split <;> rfl

@[simp] theorem State.settleTimebase_faults (s : State) :
    (s.settleTimebase).faults = s.faults := by
  unfold State.settleTimebase; split <;> rfl

@[simp] theorem State.settleTimebase_writeQueue (s : State) :
    (s.settleTimebase).writeQueue = s.writeQueue := by
  unfold State.settleTimebase; split <;> rfl

@[simp] theorem State.settleTimebase_write (s : State) :
    (s.settleTimebase).write = s.write := by
  unfold State.settleTimebase; split <;> rfl

@[simp] theorem State.settleTimebase_engineLamp (s : State) :
    (s.settleTimebase).engineLamp = s.engineLamp := by
  unfold State.settleTimebase; split <;> rfl

@[simp] theorem State.settleTimebase_brakeLamp (s : State) :
    (s.settleTimebase).brakeLamp = s.brakeLamp := by
  unfold State.settleTimebase; split <;> rfl

@[simp] theorem State.settleTimebase_stepPos (s : State) :
    (s.settleTimebase).stepPos = s.stepPos := by
  unfold State.settleTimebase; split <;> rfl

@[simp] theorem State.settleTimebase_boundaryDue (s : State) :
    (s.settleTimebase).boundaryDue = s.boundaryDue := by
  unfold State.settleTimebase; split <;> rfl

@[simp] theorem State.settleTimebase_bulbCheck (s : State) :
    (s.settleTimebase).bulbCheck = s.bulbCheck := by
  unfold State.settleTimebase; split <;> rfl

@[simp] theorem State.settleTimebase_reports (s : State) :
    (s.settleTimebase).reports = s.reports := by
  unfold State.settleTimebase; split <;> rfl

@[simp] theorem State.settleTimebase_reportsDropped (s : State) :
    (s.settleTimebase).reportsDropped = s.reportsDropped := by
  unfold State.settleTimebase; split <;> rfl

@[simp] theorem State.settleTimebase_pacer (s : State) :
    (s.settleTimebase).pacer = s.pacer := by
  unfold State.settleTimebase; split <;> rfl

@[simp] theorem State.settleTimebase_statusPeriod (s : State) :
    (s.settleTimebase).statusPeriod = s.statusPeriod := by
  unfold State.settleTimebase; split <;> rfl

@[simp] theorem State.settleTimebase_responder (s : State) :
    (s.settleTimebase).responder = s.responder := by
  unfold State.settleTimebase; split <;> rfl

@[simp] theorem State.settleTimebase_limitPassed (s : State) :
    (s.settleTimebase).limitPassed = s.limitPassed := by
  unfold State.settleTimebase; split <;> rfl

@[simp] theorem State.settleTimebase_sampleElapsed (s : State) :
    (s.settleTimebase).sampleElapsed = s.sampleElapsed := by
  unfold State.settleTimebase; split <;> rfl

@[simp] theorem State.settleTimebase_keyElapsed (s : State) :
    (s.settleTimebase).keyElapsed = s.keyElapsed := by
  unfold State.settleTimebase; split <;> rfl

@[simp] theorem State.settleTimebase_lampElapsed (s : State) :
    (s.settleTimebase).lampElapsed = s.lampElapsed := by
  unfold State.settleTimebase; split <;> rfl

@[simp] theorem State.settleTimebase_statusElapsed (s : State) :
    (s.settleTimebase).statusElapsed = s.statusElapsed := by
  unfold State.settleTimebase; split <;> rfl

@[simp] theorem State.settleTimebase_afterRunElapsed (s : State) :
    (s.settleTimebase).afterRunElapsed = s.afterRunElapsed := by
  unfold State.settleTimebase; split <;> rfl

@[simp] theorem State.settleTimebase_pending (s : State) :
    (s.settleTimebase).pending = s.pending := by
  unfold State.settleTimebase; split <;> rfl

/-! ### `State.offerResponse` -/

@[simp] theorem State.offerResponse_power (s : State) (f : TxFrame) :
    (s.offerResponse f).power = s.power := by
  unfold State.offerResponse; split; · rfl
  split <;> rfl

@[simp] theorem State.offerResponse_stage (s : State) (f : TxFrame) :
    (s.offerResponse f).stage = s.stage := by
  unfold State.offerResponse; split; · rfl
  split <;> rfl

@[simp] theorem State.offerResponse_resetKind (s : State) (f : TxFrame) :
    (s.offerResponse f).resetKind = s.resetKind := by
  unfold State.offerResponse; split; · rfl
  split <;> rfl

@[simp] theorem State.offerResponse_battery (s : State) (f : TxFrame) :
    (s.offerResponse f).battery = s.battery := by
  unfold State.offerResponse; split; · rfl
  split <;> rfl

@[simp] theorem State.offerResponse_band (s : State) (f : TxFrame) :
    (s.offerResponse f).band = s.band := by
  unfold State.offerResponse; split; · rfl
  split <;> rfl

@[simp] theorem State.offerResponse_sampleCount (s : State) (f : TxFrame) :
    (s.offerResponse f).sampleCount = s.sampleCount := by
  unfold State.offerResponse; split; · rfl
  split <;> rfl

@[simp] theorem State.offerResponse_keyLine (s : State) (f : TxFrame) :
    (s.offerResponse f).keyLine = s.keyLine := by
  unfold State.offerResponse; split; · rfl
  split <;> rfl

@[simp] theorem State.offerResponse_keySettled (s : State) (f : TxFrame) :
    (s.offerResponse f).keySettled = s.keySettled := by
  unfold State.offerResponse; split; · rfl
  split <;> rfl

@[simp] theorem State.offerResponse_timebase (s : State) (f : TxFrame) :
    (s.offerResponse f).timebase = s.timebase := by
  unfold State.offerResponse; split; · rfl
  split <;> rfl

@[simp] theorem State.offerResponse_degraded (s : State) (f : TxFrame) :
    (s.offerResponse f).degraded = s.degraded := by
  unfold State.offerResponse; split; · rfl
  split <;> rfl

@[simp] theorem State.offerResponse_crystalRuns (s : State) (f : TxFrame) :
    (s.offerResponse f).crystalRuns = s.crystalRuns := by
  unfold State.offerResponse; split; · rfl
  split <;> rfl

@[simp] theorem State.offerResponse_retained (s : State) (f : TxFrame) :
    (s.offerResponse f).retained = s.retained := by
  unfold State.offerResponse; split; · rfl
  split <;> rfl

@[simp] theorem State.offerResponse_store (s : State) (f : TxFrame) :
    (s.offerResponse f).store = s.store := by
  unfold State.offerResponse; split; · rfl
  split <;> rfl

@[simp] theorem State.offerResponse_storeFailed (s : State) (f : TxFrame) :
    (s.offerResponse f).storeFailed = s.storeFailed := by
  unfold State.offerResponse; split; · rfl
  split <;> rfl

@[simp] theorem State.offerResponse_configured (s : State) (f : TxFrame) :
    (s.offerResponse f).configured = s.configured := by
  unfold State.offerResponse; split; · rfl
  split <;> rfl

@[simp] theorem State.offerResponse_working (s : State) (f : TxFrame) :
    (s.offerResponse f).working = s.working := by
  unfold State.offerResponse; split; · rfl
  split <;> rfl

@[simp] theorem State.offerResponse_staging (s : State) (f : TxFrame) :
    (s.offerResponse f).staging = s.staging := by
  unfold State.offerResponse; split; · rfl
  split <;> rfl

@[simp] theorem State.offerResponse_control (s : State) (f : TxFrame) :
    (s.offerResponse f).control = s.control := by
  unfold State.offerResponse; split; · rfl
  split <;> rfl

@[simp] theorem State.offerResponse_clashes (s : State) (f : TxFrame) :
    (s.offerResponse f).clashes = s.clashes := by
  unfold State.offerResponse; split; · rfl
  split <;> rfl

@[simp] theorem State.offerResponse_monitor (s : State) (f : TxFrame) :
    (s.offerResponse f).monitor = s.monitor := by
  unfold State.offerResponse; split; · rfl
  split <;> rfl

@[simp] theorem State.offerResponse_cache (s : State) (f : TxFrame) :
    (s.offerResponse f).cache = s.cache := by
  unfold State.offerResponse; split; · rfl
  split <;> rfl

@[simp] theorem State.offerResponse_watches (s : State) (f : TxFrame) :
    (s.offerResponse f).watches = s.watches := by
  unfold State.offerResponse; split; · rfl
  split <;> rfl

@[simp] theorem State.offerResponse_faults (s : State) (f : TxFrame) :
    (s.offerResponse f).faults = s.faults := by
  unfold State.offerResponse; split; · rfl
  split <;> rfl

@[simp] theorem State.offerResponse_writeQueue (s : State) (f : TxFrame) :
    (s.offerResponse f).writeQueue = s.writeQueue := by
  unfold State.offerResponse; split; · rfl
  split <;> rfl

@[simp] theorem State.offerResponse_write (s : State) (f : TxFrame) :
    (s.offerResponse f).write = s.write := by
  unfold State.offerResponse; split; · rfl
  split <;> rfl

@[simp] theorem State.offerResponse_engineLamp (s : State) (f : TxFrame) :
    (s.offerResponse f).engineLamp = s.engineLamp := by
  unfold State.offerResponse; split; · rfl
  split <;> rfl

@[simp] theorem State.offerResponse_brakeLamp (s : State) (f : TxFrame) :
    (s.offerResponse f).brakeLamp = s.brakeLamp := by
  unfold State.offerResponse; split; · rfl
  split <;> rfl

@[simp] theorem State.offerResponse_stepPos (s : State) (f : TxFrame) :
    (s.offerResponse f).stepPos = s.stepPos := by
  unfold State.offerResponse; split; · rfl
  split <;> rfl

@[simp] theorem State.offerResponse_boundaryDue (s : State) (f : TxFrame) :
    (s.offerResponse f).boundaryDue = s.boundaryDue := by
  unfold State.offerResponse; split; · rfl
  split <;> rfl

@[simp] theorem State.offerResponse_bulbCheck (s : State) (f : TxFrame) :
    (s.offerResponse f).bulbCheck = s.bulbCheck := by
  unfold State.offerResponse; split; · rfl
  split <;> rfl

@[simp] theorem State.offerResponse_reports (s : State) (f : TxFrame) :
    (s.offerResponse f).reports = s.reports := by
  unfold State.offerResponse; split; · rfl
  split <;> rfl

@[simp] theorem State.offerResponse_reportsDropped (s : State) (f : TxFrame) :
    (s.offerResponse f).reportsDropped = s.reportsDropped := by
  unfold State.offerResponse; split; · rfl
  split <;> rfl

@[simp] theorem State.offerResponse_pacer (s : State) (f : TxFrame) :
    (s.offerResponse f).pacer = s.pacer := by
  unfold State.offerResponse; split; · rfl
  split <;> rfl

@[simp] theorem State.offerResponse_statusPeriod (s : State) (f : TxFrame) :
    (s.offerResponse f).statusPeriod = s.statusPeriod := by
  unfold State.offerResponse; split; · rfl
  split <;> rfl

@[simp] theorem State.offerResponse_limitPassed (s : State) (f : TxFrame) :
    (s.offerResponse f).limitPassed = s.limitPassed := by
  unfold State.offerResponse; split; · rfl
  split <;> rfl

@[simp] theorem State.offerResponse_sampleElapsed (s : State) (f : TxFrame) :
    (s.offerResponse f).sampleElapsed = s.sampleElapsed := by
  unfold State.offerResponse; split; · rfl
  split <;> rfl

@[simp] theorem State.offerResponse_keyElapsed (s : State) (f : TxFrame) :
    (s.offerResponse f).keyElapsed = s.keyElapsed := by
  unfold State.offerResponse; split; · rfl
  split <;> rfl

@[simp] theorem State.offerResponse_lampElapsed (s : State) (f : TxFrame) :
    (s.offerResponse f).lampElapsed = s.lampElapsed := by
  unfold State.offerResponse; split; · rfl
  split <;> rfl

@[simp] theorem State.offerResponse_statusElapsed (s : State) (f : TxFrame) :
    (s.offerResponse f).statusElapsed = s.statusElapsed := by
  unfold State.offerResponse; split; · rfl
  split <;> rfl

@[simp] theorem State.offerResponse_afterRunElapsed (s : State) (f : TxFrame) :
    (s.offerResponse f).afterRunElapsed = s.afterRunElapsed := by
  unfold State.offerResponse; split; · rfl
  split <;> rfl

@[simp] theorem State.offerResponse_free (s : State) (f : TxFrame) :
    (s.offerResponse f).free = s.free := by
  unfold State.offerResponse; split; · rfl
  split <;> rfl

@[simp] theorem State.offerResponse_pending (s : State) (f : TxFrame) :
    (s.offerResponse f).pending = s.pending := by
  unfold State.offerResponse; split; · rfl
  split <;> rfl

/-! ### `State.forward` -/

@[simp] theorem State.forward_power (s : State) (p : Port) (f : CanFrame) :
    (s.forward p f).power = s.power := by
  unfold State.forward; split <;> simp

@[simp] theorem State.forward_stage (s : State) (p : Port) (f : CanFrame) :
    (s.forward p f).stage = s.stage := by
  unfold State.forward; split <;> simp

@[simp] theorem State.forward_resetKind (s : State) (p : Port) (f : CanFrame) :
    (s.forward p f).resetKind = s.resetKind := by
  unfold State.forward; split <;> simp

@[simp] theorem State.forward_battery (s : State) (p : Port) (f : CanFrame) :
    (s.forward p f).battery = s.battery := by
  unfold State.forward; split <;> simp

@[simp] theorem State.forward_band (s : State) (p : Port) (f : CanFrame) :
    (s.forward p f).band = s.band := by
  unfold State.forward; split <;> simp

@[simp] theorem State.forward_sampleCount (s : State) (p : Port) (f : CanFrame) :
    (s.forward p f).sampleCount = s.sampleCount := by
  unfold State.forward; split <;> simp

@[simp] theorem State.forward_keyLine (s : State) (p : Port) (f : CanFrame) :
    (s.forward p f).keyLine = s.keyLine := by
  unfold State.forward; split <;> simp

@[simp] theorem State.forward_keySettled (s : State) (p : Port) (f : CanFrame) :
    (s.forward p f).keySettled = s.keySettled := by
  unfold State.forward; split <;> simp

@[simp] theorem State.forward_timebase (s : State) (p : Port) (f : CanFrame) :
    (s.forward p f).timebase = s.timebase := by
  unfold State.forward; split <;> simp

@[simp] theorem State.forward_degraded (s : State) (p : Port) (f : CanFrame) :
    (s.forward p f).degraded = s.degraded := by
  unfold State.forward; split <;> simp

@[simp] theorem State.forward_crystalRuns (s : State) (p : Port) (f : CanFrame) :
    (s.forward p f).crystalRuns = s.crystalRuns := by
  unfold State.forward; split <;> simp

@[simp] theorem State.forward_retained (s : State) (p : Port) (f : CanFrame) :
    (s.forward p f).retained = s.retained := by
  unfold State.forward; split <;> simp

@[simp] theorem State.forward_store (s : State) (p : Port) (f : CanFrame) :
    (s.forward p f).store = s.store := by
  unfold State.forward; split <;> simp

@[simp] theorem State.forward_storeFailed (s : State) (p : Port) (f : CanFrame) :
    (s.forward p f).storeFailed = s.storeFailed := by
  unfold State.forward; split <;> simp

@[simp] theorem State.forward_configured (s : State) (p : Port) (f : CanFrame) :
    (s.forward p f).configured = s.configured := by
  unfold State.forward; split <;> simp

@[simp] theorem State.forward_working (s : State) (p : Port) (f : CanFrame) :
    (s.forward p f).working = s.working := by
  unfold State.forward; split <;> simp

@[simp] theorem State.forward_staging (s : State) (p : Port) (f : CanFrame) :
    (s.forward p f).staging = s.staging := by
  unfold State.forward; split <;> simp

@[simp] theorem State.forward_clashes (s : State) (p : Port) (f : CanFrame) :
    (s.forward p f).clashes = s.clashes := by
  unfold State.forward; split <;> simp

@[simp] theorem State.forward_monitor (s : State) (p : Port) (f : CanFrame) :
    (s.forward p f).monitor = s.monitor := by
  unfold State.forward; split <;> simp

@[simp] theorem State.forward_cache (s : State) (p : Port) (f : CanFrame) :
    (s.forward p f).cache = s.cache := by
  unfold State.forward; split <;> simp

@[simp] theorem State.forward_watches (s : State) (p : Port) (f : CanFrame) :
    (s.forward p f).watches = s.watches := by
  unfold State.forward; split <;> simp

@[simp] theorem State.forward_faults (s : State) (p : Port) (f : CanFrame) :
    (s.forward p f).faults = s.faults := by
  unfold State.forward; split <;> simp

@[simp] theorem State.forward_writeQueue (s : State) (p : Port) (f : CanFrame) :
    (s.forward p f).writeQueue = s.writeQueue := by
  unfold State.forward; split <;> simp

@[simp] theorem State.forward_write (s : State) (p : Port) (f : CanFrame) :
    (s.forward p f).write = s.write := by
  unfold State.forward; split <;> simp

@[simp] theorem State.forward_engineLamp (s : State) (p : Port) (f : CanFrame) :
    (s.forward p f).engineLamp = s.engineLamp := by
  unfold State.forward; split <;> simp

@[simp] theorem State.forward_brakeLamp (s : State) (p : Port) (f : CanFrame) :
    (s.forward p f).brakeLamp = s.brakeLamp := by
  unfold State.forward; split <;> simp

@[simp] theorem State.forward_stepPos (s : State) (p : Port) (f : CanFrame) :
    (s.forward p f).stepPos = s.stepPos := by
  unfold State.forward; split <;> simp

@[simp] theorem State.forward_boundaryDue (s : State) (p : Port) (f : CanFrame) :
    (s.forward p f).boundaryDue = s.boundaryDue := by
  unfold State.forward; split <;> simp

@[simp] theorem State.forward_bulbCheck (s : State) (p : Port) (f : CanFrame) :
    (s.forward p f).bulbCheck = s.bulbCheck := by
  unfold State.forward; split <;> simp

@[simp] theorem State.forward_reports (s : State) (p : Port) (f : CanFrame) :
    (s.forward p f).reports = s.reports := by
  unfold State.forward; split <;> simp

@[simp] theorem State.forward_reportsDropped (s : State) (p : Port) (f : CanFrame) :
    (s.forward p f).reportsDropped = s.reportsDropped := by
  unfold State.forward; split <;> simp

@[simp] theorem State.forward_pacer (s : State) (p : Port) (f : CanFrame) :
    (s.forward p f).pacer = s.pacer := by
  unfold State.forward; split <;> simp

@[simp] theorem State.forward_statusPeriod (s : State) (p : Port) (f : CanFrame) :
    (s.forward p f).statusPeriod = s.statusPeriod := by
  unfold State.forward; split <;> simp

@[simp] theorem State.forward_responder (s : State) (p : Port) (f : CanFrame) :
    (s.forward p f).responder = s.responder := by
  unfold State.forward; split <;> simp

@[simp] theorem State.forward_limitPassed (s : State) (p : Port) (f : CanFrame) :
    (s.forward p f).limitPassed = s.limitPassed := by
  unfold State.forward; split <;> simp

@[simp] theorem State.forward_sampleElapsed (s : State) (p : Port) (f : CanFrame) :
    (s.forward p f).sampleElapsed = s.sampleElapsed := by
  unfold State.forward; split <;> simp

@[simp] theorem State.forward_keyElapsed (s : State) (p : Port) (f : CanFrame) :
    (s.forward p f).keyElapsed = s.keyElapsed := by
  unfold State.forward; split <;> simp

@[simp] theorem State.forward_lampElapsed (s : State) (p : Port) (f : CanFrame) :
    (s.forward p f).lampElapsed = s.lampElapsed := by
  unfold State.forward; split <;> simp

@[simp] theorem State.forward_statusElapsed (s : State) (p : Port) (f : CanFrame) :
    (s.forward p f).statusElapsed = s.statusElapsed := by
  unfold State.forward; split <;> simp

@[simp] theorem State.forward_afterRunElapsed (s : State) (p : Port) (f : CanFrame) :
    (s.forward p f).afterRunElapsed = s.afterRunElapsed := by
  unfold State.forward; split <;> simp

@[simp] theorem State.forward_free (s : State) (p : Port) (f : CanFrame) :
    (s.forward p f).free = s.free := by
  unfold State.forward; split <;> simp

@[simp] theorem State.forward_pending (s : State) (p : Port) (f : CanFrame) :
    (s.forward p f).pending = s.pending := by
  unfold State.forward; split <;> simp

/-! ### Retained memory after a watch event -/

@[simp] theorem State.watchEvent_retained_mark (s : State) (r : WatchEntry → Option Reach) :
    (s.watchEvent r).retained.mark = s.retained.mark := rfl

@[simp] theorem State.watchEvent_retained_slots (s : State) (r : WatchEntry → Option Reach) :
    (s.watchEvent r).retained.slots = s.retained.slots := rfl

@[simp] theorem State.watchEvent_retained_rideNumber (s : State) (r : WatchEntry → Option Reach) :
    (s.watchEvent r).retained.rideNumber = s.retained.rideNumber := rfl

@[simp] theorem State.watchEvent_retained_rideOpen (s : State) (r : WatchEntry → Option Reach) :
    (s.watchEvent r).retained.rideOpen = s.retained.rideOpen := rfl

@[simp] theorem State.watchEvent_retained_rideClock (s : State) (r : WatchEntry → Option Reach) :
    (s.watchEvent r).retained.rideClock = s.retained.rideClock := rfl

@[simp] theorem State.watchEvent_retained_verified (s : State) (r : WatchEntry → Option Reach) :
    (s.watchEvent r).retained.verified = s.retained.verified := rfl

@[simp] theorem State.watchEvent_retained_restarts (s : State) (r : WatchEntry → Option Reach) :
    (s.watchEvent r).retained.restarts = s.retained.restarts := rfl

@[simp] theorem State.watchEvent_retained_lastReset (s : State) (r : WatchEntry → Option Reach) :
    (s.watchEvent r).retained.lastReset = s.retained.lastReset := rfl

/-! ## The frame of a watch event -/

/-- The memory flags that handing an entry on leaves as they are. -/
theorem joinWrites_flags (n : WriteEntry) (q : List WriteEntry) (f : MemoryFlags) :
    (joinWrites n q f).2 = { f with deferredOverflow := (joinWrites n q f).2.deferredOverflow } := by
  unfold joinWrites; split <;> rfl

theorem HandedTo.take_flags (q : HandedTo) (h : Handed) :
    (q.take h).flags = { q.flags with deferredOverflow := (q.take h).flags.deferredOverflow } :=
  joinWrites_flags _ _ _

theorem HandedTo.foldl_flags (hs : List Handed) (q : HandedTo) :
    (hs.foldl HandedTo.take q).flags =
      { q.flags with deferredOverflow := (hs.foldl HandedTo.take q).flags.deferredOverflow } := by
  induction hs generalizing q with
  | nil => rfl
  | cons h t ih => rw [List.foldl_cons, ih, HandedTo.take_flags]

/-- Handing entries on changes DEFERRED_OVERFLOW of retained memory alone. -/
theorem State.handOn_retained (s : State) (hs : List Handed) :
    (s.handOn hs).retained = { s.retained with
      flags := { s.retained.flags with
        deferredOverflow := (s.handOn hs).retained.flags.deferredOverflow } } := by
  have h := HandedTo.foldl_flags (s.free.arrange hs.length hs).1
    ⟨s.writeQueue, s.retained.flags, s.reports, s.reportsDropped⟩
  exact congrArg (fun f => { s.retained with flags := f }) h

theorem State.applySamples_retained (s : State) (x : List (Nat × Bool)) :
    (s.applySamples x).retained = { s.retained with
      rideFlags := (s.applySamples x).retained.rideFlags
      flags := { s.retained.flags with
        deferredOverflow := (s.applySamples x).retained.flags.deferredOverflow } } :=
  State.handOn_retained _ _

/-- An event over the watches reaches the pipeline alone. -/
theorem State.watchEvent_frame (s : State) (r : WatchEntry → Option Reach) :
    s.reachesPipelineOnly (s.watchEvent r) := by
  unfold State.reachesPipelineOnly
  have h : (s.watchEvent r).retained = { s.retained with
      rideFlags := (s.watchEvent r).retained.rideFlags
      flags := { s.retained.flags with
        deferredOverflow := (s.watchEvent r).retained.flags.deferredOverflow } } :=
    State.applySamples_retained _ _
  exact congrArg (fun x => { s.watchEvent r with retained := x }) h

/-- A state reaches itself. -/
theorem State.reachesPipelineOnly_refl (s : State) : s.reachesPipelineOnly s := rfl

/-- What a new record of a port comes to (R1, R68, R76). -/
theorem State.changePort_cases (s : State) (p : Port) (r : PortRecord) :
    s.changePort p r = s.setPort p r
    ∨ ((s.port p).state ≠ r.state ∧ s.power = .running
      ∧ s.changePort p r = (s.setPort p r).watchEvent (reachPort (s.setPort p r).view p)) := by
  unfold State.changePort
  by_cases h : (s.port p).state ≠ r.state ∧ (s.setPort p r).isRunning = true
  · right
    refine ⟨h.1, ?_, by simp [h]⟩
    simpa [State.isRunning] using h.2
  · left
    simp only [h, if_false]

/-- A port whose state stays takes its record and nothing else happens. -/
theorem State.changePort_same (s : State) (p : Port) (r : PortRecord) (h : r.state = (s.port p).state) :
    s.changePort p r = s.setPort p r := by
  unfold State.changePort; simp [h]

/-! ## The end of AFTER_RUN -/

/-- Past its limit AFTER_RUN ends when no write is in progress; otherwise nothing happens (R121, R174). -/
theorem State.standbyPastLimit_cases (s : State) :
    (s.power = .afterRun ∧ s.limitPassed = true ∧ s.write = none ∧ s.store.state ≠ .writing
      ∧ s.standbyPastLimit = s.intoStandby) ∨ s.standbyPastLimit = s := by
  unfold State.standbyPastLimit
  split
  · rename_i h
    simp only [State.inAfterRun, Bool.and_eq_true, beq_iff_eq, Option.isNone_iff_eq_none, bne_iff_ne] at h
    exact .inl ⟨h.1.1.1, h.1.1.2, h.1.2, h.2, rfl⟩
  · exact .inr rfl

/-- What follows the end of a write, as the statements say it (R121, R174). -/
theorem State.standbyPastLimit_eq (s : State) : s.standbyPastLimit = s.restedPastLimit := by
  unfold State.restedPastLimit State.standbyPastLimit
  have h : (s.inAfterRun && s.limitPassed && s.write.isNone && s.store.state != .writing) = true
      ↔ (s.power = .afterRun ∧ s.limitPassed = true ∧ s.write = none ∧ s.store.state ≠ .writing) := by
    simp [State.inAfterRun, and_assoc]
  by_cases g : s.power = .afterRun ∧ s.limitPassed = true ∧ s.write = none ∧ s.store.state ≠ .writing
  · rw [if_pos g, if_pos (h.2 g)]; rfl
  · rw [if_neg g, if_neg (fun k => g (h.1 k))]

/-- Before its limit AFTER_RUN does not end so. -/
theorem State.standbyPastLimit_before (s : State) (h : s.limitPassed = false) : s.standbyPastLimit = s := by
  unfold State.standbyPastLimit; simp [h]

end Sys2Proof.Machine
end

