-- ==== Sys2Proof/Laws/Ops.lean ====
section
/-! SUPPORT. One lemma for each shared operation that says what it can do: counts, reads by index, free choices, the
queues, the offers to the vehicle port, and the arrival of a request. -/

namespace Sys2Proof.Machine

/-! ## Counts and lists by index -/

theorem saturate_le (limit n k : Nat) : saturate limit n k ≤ limit := Nat.min_le_left _ _

theorem saturate_cases (limit n k : Nat) :
    (n + k ≤ limit ∧ saturate limit n k = n + k) ∨ (limit < n + k ∧ saturate limit n k = limit) := by
  unfold saturate; omega

@[simp] theorem mapFrom_length {α β : Type} (f : Nat → α → β) (xs : List α) (i : Nat) :
    (mapFrom f i xs).length = xs.length := by
  induction xs generalizing i with
  | nil => rfl
  | cons x xs ih => simp [mapFrom, ih]

theorem mapFrom_getElem? {α β : Type} (f : Nat → α → β) (xs : List α) (i k : Nat) :
    (mapFrom f i xs)[k]? = xs[k]?.map (f (i + k)) := by
  induction xs generalizing i k with
  | nil => simp [mapFrom]
  | cons x xs ih =>
    cases k with
    | zero => simp [mapFrom]
    | succ k => simp [mapFrom, ih, Nat.add_assoc, Nat.add_comm 1 k]

/-- An element in use is an element of the table below the count (R155). -/
theorem entryAt_eq_some {α : Type} (n : Nat) (xs : List α) (i : Nat) (x : α) :
    entryAt n xs i = some x ↔ i < n ∧ xs[i]? = some x := by
  unfold entryAt; split <;> simp [*]

/-- The entries in use, read by index (R155). -/
theorem inUse_getElem? {α : Type} (n : Nat) (xs : List α) (i : Nat) :
    (inUse n xs)[i]? = entryAt n xs i := by
  unfold inUse entryAt; rw [List.getElem?_take]

/-! ## Free choices -/

/-- The order that free choices pick is an order of the same elements. -/
theorem FreeSource.arrange_perm {α : Type} (n : Nat) (xs : List α) (f : FreeSource) :
    (FreeSource.arrange n xs f).1.Perm xs := by
  induction n generalizing xs f with
  | zero => exact List.Perm.refl _
  | succ n ih =>
    unfold FreeSource.arrange
    split
    · exact List.Perm.refl _
    · rename_i h
      have hi : f.draw.1 % xs.length < xs.length := Nat.mod_lt _ (by omega)
      simp only [List.getElem?_eq_getElem hi, Option.toList_some, List.singleton_append]
      exact ((ih _ _).cons _).trans (List.getElem_cons_eraseIdx_perm hi)

/-! ## Events over the watches -/

/-- What an event over the watches does, whole (R71, R74, R82, R86, R88, R90). -/
theorem State.watchEvent_takesEvent (s : State) (r : WatchEntry → Option Reach) :
    s.takesEvent r (s.watchEvent r) :=
  ⟨State.watchEvent_frame s r, rfl, rfl, rfl,
    ⟨_, FreeSource.arrange_perm _ _ s.free, rfl⟩, rfl, rfl⟩

/-- A port whose state changes takes its record, and the change is announced while RUNNING (R1, R68, R76). -/
theorem State.changePort_afterEvent (s : State) (p : Port) (r : PortRecord) (h : r.state ≠ (s.port p).state) :
    (s.setPort p r).afterEvent (reachPort (s.setPort p r).view p) (s.changePort p r) := by
  unfold State.afterEvent State.changePort
  by_cases hr : s.power = .running
  · simp only [State.setPort_power, hr, if_true, State.isRunning, ne_comm.1 h, ne_eq, not_false_eq_true,
      true_and, beq_self_eq_true]
    exact State.watchEvent_takesEvent _ _
  · simp [hr, State.isRunning]

/-! ## Ports -/

/-- A port that takes part in its bus is in the state that its error counts give (R3, R4). -/
theorem errorState_live (p : PortState) (tx rx : Nat) (h : p = .errorActive ∨ p = .errorPassive) :
    errorState p tx rx = if 128 ≤ tx ∨ 128 ≤ rx then .errorPassive else .errorActive := by
  rcases h with rfl | rfl
  · rfl
  · simp only [errorState]; split <;> split <;> first | rfl | omega

theorem PortRecord.live_iff (p : PortRecord) :
    p.live = true ↔ p.state = .errorActive ∨ p.state = .errorPassive := by
  simp [PortRecord.live]

theorem PortRecord.hasRoom_iff (p : PortRecord) :
    p.hasRoom = true ↔ (p.state = .errorActive ∨ p.state = .errorPassive) ∧ p.queue.length < 8 := by
  rw [PortRecord.hasRoom, Bool.and_eq_true, decide_eq_true_iff, PortRecord.live_iff]; rfl

/-- A frame routed across joins the tail of the opposite queue, or is dropped and counted (R14). -/
theorem State.forward_cases (s : State) (p : Port) (f : CanFrame) :
    ((s.port p).hasRoom = true ∧ s.forward p f = s.setPort p ((s.port p).join ⟨f, false⟩))
    ∨ ((s.port p).hasRoom = false ∧ s.forward p f = s.setPort p (s.port p).dropped) := by
  unfold State.forward; split <;> simp_all

/-! ## The queues of the pipeline -/

/-- An entry joins the record write queue, or is lost with DEFERRED_OVERFLOW set (R105). -/
theorem joinWrites_cases (n : WriteEntry) (q : List WriteEntry) (f : MemoryFlags) :
    (q.length < 8 ∧ joinWrites n q f = (q ++ [n], f))
    ∨ (8 ≤ q.length ∧ joinWrites n q f = (q, { f with deferredOverflow := true })) := by
  by_cases h : q.length < 8
  · exact .inl ⟨h, if_pos h⟩
  · exact .inr ⟨Nat.not_lt.1 h, if_neg h⟩

/-- A report joins somewhere in the queue, which otherwise keeps its order (R134). -/
theorem insertReport_split (n : ReportEntry) (q : List ReportEntry) :
    ∃ a b, q = a ++ b ∧ insertReport n q = a ++ n :: b := by
  induction q with
  | nil => exact ⟨[], [], rfl, rfl⟩
  | cons e q ih =>
    unfold insertReport; split
    · obtain ⟨a, b, h1, h2⟩ := ih
      exact ⟨e :: a, b, by rw [h1]; rfl, by rw [h2]; rfl⟩
    · exact ⟨[], e :: q, rfl, rfl⟩

theorem insertReport_perm (n : ReportEntry) (q : List ReportEntry) : (insertReport n q).Perm (n :: q) := by
  obtain ⟨a, b, h1, h2⟩ := insertReport_split n q
  rw [h2, h1]; exact List.perm_middle

@[simp] theorem insertReport_length (n : ReportEntry) (q : List ReportEntry) :
    (insertReport n q).length = q.length + 1 := (insertReport_perm n q).length_eq

/-! ## The Service Responder -/

/-- A part joins and the part after it comes next, or the response is over (R149 to R151). -/
theorem Responder.partJoined_cases (r : Responder) (n : Nat) :
    (r.nextPart + 1 < n ∧ r.partJoined n = { r with nextPart := r.nextPart + 1, partWaits := false })
    ∨ (n ≤ r.nextPart + 1 ∧ r.partJoined n = r.finished) := by
  by_cases h : r.nextPart + 1 < n
  · exact .inl ⟨h, if_pos h⟩
  · exact .inr ⟨Nat.not_lt.1 h, if_neg h⟩

/-- The three fates of a responder frame (R7, R8, R150). -/
theorem State.offerResponse_cases (s : State) (f : TxFrame) :
    (s.vehicle.hasRoom = true ∧ s.offerResponse f = s.setPort .vehicle (s.vehicle.join f))
    ∨ (s.vehicle.live = true ∧ s.vehicle.hasRoom = false
      ∧ s.offerResponse f = s.withResponder { s.responder with waiting := some f, partWaits := false })
    ∨ (s.vehicle.live = false ∧ s.offerResponse f = s.withResponder (s.responder.afterDiscard f.restartOk)) := by
  cases h : s.vehicle.live
  · exact .inr (.inr ⟨rfl, by simp [State.offerResponse, h]⟩)
  · by_cases q : s.vehicle.queue.length < Config.transmitCapacity
    · exact .inl ⟨by simp [PortRecord.hasRoom, h, q], by simp [State.offerResponse, h, q]⟩
    · exact .inr (.inl ⟨rfl, by simp [PortRecord.hasRoom, q], by simp [State.offerResponse, h, q]⟩)

/-- The three fates of the frame of a part: it joins, waits with the index unmoved, or is discarded with its response
(R149 to R151). -/
theorem State.offerPartFrame_cases (s : State) (f : TxFrame) :
    (s.vehicle.hasRoom = true ∧ s.offerPartFrame f = (s.setPort .vehicle (s.vehicle.join f)).partJoined)
    ∨ (s.vehicle.live = true ∧ s.vehicle.hasRoom = false
      ∧ s.offerPartFrame f = s.withResponder { s.responder with waiting := some f, partWaits := true })
    ∨ (s.vehicle.live = false ∧ s.offerPartFrame f = s.withResponder (s.responder.afterDiscard f.restartOk)) := by
  rcases s.offerResponse_cases f with ⟨h, e⟩ | ⟨h, r, e⟩ | ⟨h, e⟩
  · exact .inl ⟨h, by simp [State.offerPartFrame, e, h]⟩
  · exact .inr (.inl ⟨h, r, by simp [State.offerPartFrame, e, h, r]; rfl⟩)
  · exact .inr (.inr ⟨h, by simp [State.offerPartFrame, e, h, PortRecord.hasRoom]⟩)

/-- The four fates of a request (R148, R150). -/
theorem State.handle_cases (s : State) (q : Request) :
    s.handle q = s ∨ s.handle q = s.answer q.code .busy [] ∨ s.handle q = s.serve q := by
  unfold State.handle; split
  · exact .inl rfl
  split
  · exact .inl rfl
  split
  · exact .inr (.inl rfl)
  · exact .inr (.inr rfl)

/-- A request is handled by its own rule when the responder is free for it (R150, case 3). -/
theorem State.handle_served (s : State) (q : Request) (h : s.takesRequests) : s.handle q = s.serve q := by
  obtain ⟨hp, hw, hi, hr⟩ := h
  have ha : s.isAwake = true := by rcases hp with h | h <;> simp [State.isAwake, State.isRunning, State.inAfterRun, h]
  simp [State.handle, Responder.refuses, ha, hw, hi, hr]

/-! ## Slot writes -/

/-- The begin of a slot write draws a duration of at most 5 ms (R106). -/
theorem State.beginSlotWrite_write (s : State) (i c : Nat) (b : Option Record) :
    ∃ d, d ≤ 5 ∧ (s.beginSlotWrite i c b).write = some ⟨i, b, 0, d⟩ :=
  ⟨_, Nat.le_of_lt_succ (Nat.mod_lt _ (by decide)), rfl⟩

/-- The head of the queue begins its write, or leaves without one (R106, R108, R111 to R113). -/
theorem State.beginHead_cases (s : State) (head : WriteEntry) (rest : List WriteEntry) :
    (∃ i c b, s.beginHead head rest = s.beginSlotWrite i c b)
    ∨ s.beginHead head rest = s.unrecorded rest
    ∨ ∃ q, s.beginHead head rest = s.withQueue q := by
  unfold State.beginHead
  split
  · split
    · exact .inl ⟨_, _, _, rfl⟩
    · exact .inr (.inl rfl)
  · split
    · exact .inl ⟨_, _, _, rfl⟩
    · exact .inr (.inr ⟨_, rfl⟩)
  · exact .inr (.inr ⟨_, rfl⟩)
  · split
    · exact .inl ⟨_, _, _, rfl⟩
    · exact .inr (.inr ⟨_, rfl⟩)

/-! ## Supply samples, starts and rides -/

/-- The abort of a store write (R158). -/
theorem State.abortStore_cases (s : State) (b : Band) :
    (s.store.state = .writing ∧ b ≠ .normal
      ∧ s.abortStore b = { s with store := { s.store with state := .invalid }, storeFailed := true })
    ∨ (¬ (s.store.state = .writing ∧ b ≠ .normal) ∧ s.abortStore b = s) := by
  by_cases h : s.store.state = .writing ∧ b ≠ .normal
  · exact .inl ⟨h.1, h.2, if_pos h⟩
  · exact .inr ⟨h, if_neg h⟩

/-- The band that a sample gives: it stays, or the change is handed on (R158, R164, R174). -/
theorem State.setBand_cases (s : State) (b : Band) :
    (b = s.band ∧ s.setBand b = s)
    ∨ (b ≠ s.band ∧ s.setBand b
      = ((State.abortStore { s with band := b } b).announceBand s.band).standbyPastLimit) := by
  by_cases h : b = s.band
  · exact .inl ⟨h, if_pos h⟩
  · exact .inr ⟨h, if_neg h⟩

/-- A sample counts in RUNNING alone, and the tenth makes the evaluation (R164). -/
theorem State.countSample_cases (s : State) :
    (s.power ≠ .running ∧ s.countSample = s)
    ∨ (s.power = .running ∧ s.sampleCount + 1 < 10
      ∧ s.countSample = { s with sampleCount := s.sampleCount + 1 })
    ∨ (s.power = .running ∧ 10 ≤ s.sampleCount + 1 ∧ s.countSample = s.evaluateSupply) := by
  unfold State.countSample State.isRunning
  by_cases h : s.power = .running
  · by_cases n : s.sampleCount + 1 < 10
    · exact .inr (.inl ⟨h, n, by simp [h, n]⟩)
    · exact .inr (.inr ⟨h, Nat.not_lt.1 n, by simp [h, n]⟩)
  · exact .inl ⟨h, by simp [h]⟩

/-- A sample records its level, resets the module, or sets the band and counts (R163 to R165). -/
theorem State.takeSample_cases (s : State) (v : Nat) :
    (s.isHeld = true ∧ s.takeSample v = s.readBattery v)
    ∨ (v < 60 ∧ s.takeSample v = (s.readBattery v).resetModule .supplyDip)
    ∨ (∃ b, s.isHeld = false ∧ nextBand s.band v = some b
      ∧ s.takeSample v = ((s.readBattery v).setBand b).countSample) := by
  unfold State.takeSample
  cases h : s.isHeld
  · cases hb : nextBand s.band v with
    | none =>
      refine .inr (.inl ⟨?_, by simp⟩)
      unfold nextBand at hb
      by_cases hv : v < 60
      · exact hv
      · rw [if_neg hv] at hb; repeat' (split at hb <;> try cases hb)
    | some b => exact .inr (.inr ⟨b, rfl, rfl, by simp⟩)
  · unfold State.sampleHeld
    by_cases hk : (s.readBattery v).resetKind = .serviceRestart ∧ v < 60
    · exact .inr (.inl ⟨hk.2, by simp [hk]⟩)
    · exact .inl ⟨rfl, by simp only [if_true, if_neg hk]⟩

/-- Start-up prepares the module, or its first sample resets it again (R163, R165, R167). -/
theorem State.startUp_cases (s : State) :
    (s.stage = .held ∧ s.battery < 60 ∧ s.startUp = s.resetModule .supplyDip)
    ∨ (¬ (s.stage = .held ∧ s.battery < 60) ∧ s.startUp = s.setUp.finishStart) := by
  by_cases h : s.stage = .held ∧ s.battery < 60
  · exact .inl ⟨h.1, h.2, if_pos h⟩
  · exact .inr ⟨h, if_neg h⟩

/-- The four outcomes of the ride decision (R168, R176). -/
theorem State.rideDecision_cases (s : State) (on : Bool) :
    ∃ t, (t = s ∨ t = s.settleTimebase)
      ∧ (s.rideDecision on = t.joinBuses.resumeRide ∨ s.rideDecision on = t.joinBuses.newRide
        ∨ s.rideDecision on = t.joinBuses.endRide
        ∨ s.rideDecision on = { t with power := .standby, stage := .done }) := by
  refine ⟨if s.stage = .keyOn then s else s.settleTimebase, ?_, ?_⟩
  · split
    · exact .inl rfl
    · exact .inr rfl
  · unfold State.rideDecision
    simp only
    cases on <;> cases (if s.stage = .keyOn then s else s.settleTimebase).retained.rideOpen <;> simp

end Sys2Proof.Machine
end

