-- ==== Sys2Proof/Laws/PerInstr.lean ====
section
/-! SUPPORT. One statement about every command as syntax, with one lemma for each constructor of `Instr`. -/

namespace Sys2Proof.Laws.Operands

/-- A command is well formed, unless it is FRAME_RECEIVED with an operand that is no CAN frame (R3). -/
def Statement (i : Instr) : Prop :=
  i.wellFormed = true ∨ ∃ p f, i = .frameReceived p f ∧ f.wellFormed = false

theorem frameReceived (p : Port) (f : CanFrame) : Statement (.frameReceived p f) := by
  cases h : f.wellFormed
  · exact .inr ⟨p, f, rfl, h⟩
  · exact .inl h

theorem receiveError (port : Port) : Statement (.receiveError port) := .inl rfl

theorem lostArbitration (port : Port) : Statement (.lostArbitration port) := .inl rfl

theorem transmitSuccess (port : Port) : Statement (.transmitSuccess port) := .inl rfl

theorem transmitError (port : Port) : Statement (.transmitError port) := .inl rfl

theorem recoverySequence (port : Port) : Statement (.recoverySequence port) := .inl rfl

theorem waitingFrameReoffer : Statement (.waitingFrameReoffer) := .inl rfl

theorem responsePartOffer : Statement (.responsePartOffer) := .inl rfl

theorem frameTimerExpiry (entry : Nat) : Statement (.frameTimerExpiry entry) := .inl rfl

theorem writeBegin : Statement (.writeBegin) := .inl rfl

theorem confirmWriteComplete : Statement (.confirmWriteComplete) := .inl rfl

theorem healWriteComplete : Statement (.healWriteComplete) := .inl rfl

theorem ageWriteComplete : Statement (.ageWriteComplete) := .inl rfl

theorem supplySample (decivolts : Nat) : Statement (.supplySample decivolts) := .inl rfl

theorem supplyEvaluation : Statement (.supplyEvaluation) := .inl rfl

theorem powerOn : Statement (.powerOn) := .inl rfl

theorem startup : Statement (.startup) := .inl rfl

theorem keyLevelChange (on : Bool) : Statement (.keyLevelChange on) := .inl rfl

theorem keyOnSettled : Statement (.keyOnSettled) := .inl rfl

theorem keyOffSettled : Statement (.keyOffSettled) := .inl rfl

theorem afterRunEnd : Statement (.afterRunEnd) := .inl rfl

theorem afterRunLimit : Statement (.afterRunLimit) := .inl rfl

theorem lampStep : Statement (.lampStep) := .inl rfl

theorem cycleBoundary : Statement (.cycleBoundary) := .inl rfl

theorem windowBegin : Statement (.windowBegin) := .inl rfl

theorem pacerSlot : Statement (.pacerSlot) := .inl rfl

theorem statusExpiry : Statement (.statusExpiry) := .inl rfl

theorem crystalStop : Statement (.crystalStop) := .inl rfl

theorem storeWriteComplete : Statement (.storeWriteComplete) := .inl rfl

theorem readStatus (page : Byte) : Statement (.readStatus page) := .inl rfl

theorem readRecord (slot : Byte) : Statement (.readRecord slot) := .inl rfl

theorem readFrameState (index : Byte) : Statement (.readFrameState index) := .inl rfl

theorem readSignal (index : Byte) : Statement (.readSignal index) := .inl rfl

theorem readWatch (index : Byte) : Statement (.readWatch index) := .inl rfl

theorem readFaultState (index : Byte) : Statement (.readFaultState index) := .inl rfl

theorem readTable (table index field : Byte) : Statement (.readTable table index field) := .inl rfl

theorem writeTable (table index field : Byte) (value : BitVec 32) : Statement (.writeTable table index field value) := .inl rfl

theorem revert : Statement (.revert) := .inl rfl

theorem clear (scope : Byte) (code : BitVec 16) : Statement (.clear scope code) := .inl rfl

theorem commit : Statement (.commit) := .inl rfl

theorem restart : Statement (.restart) := .inl rfl

theorem badRequest (code : Byte) : Statement (.badRequest code) := .inl rfl

theorem serviceRestart : Statement (.serviceRestart) := .inl rfl

theorem supplyCollapse : Statement (.supplyCollapse) := .inl rfl

end Sys2Proof.Laws.Operands
end

