-- ==== Sys2Proof/Tests/Slice0.lean ====
section
/-! SUPPORT. Tests: what the checks refuse, the manual's worked cases, one step of the commands, and for every
statement with hypotheses a state and operands that meet them. -/

namespace Sys2Proof.Tests

open Sys2Proof Sys2Proof.Machine

/-! ## Small tables and states -/

/-- A PERIODIC frame of two bytes on the control port (the times are those of the 10 ms frame of 02). -/
def frame0 : FrameEntry :=
  { FrameEntry.blank with ident := 0x100, length := 2, timing := .periodic, minPeriod := 8, maxPeriod := 12, timeout := 50 }

/-- A signal of one unsigned byte. -/
def signal0 : SignalEntry := { SignalEntry.blank with extraction := .byte, signed := false, gain := 1, offset := 0 }

/-- A LEVEL watch, ABOVE 100. -/
def level0 : WatchEntry :=
  { WatchEntry.blank with needsNormal := false, linkPresent := true, comparison := .above, thresholdA := 100 }

/-- A SUPPLY watch behind the LEVEL watch's gate. -/
def gated1 : WatchEntry := { WatchEntry.blank with kind := .supply, gatePresent := true, needsNormal := false }

/-- The fault of the injector example (05), with threshold 1. -/
def fault0 : FaultEntry := { FaultEntry.blank with code := 4610, severity := 3, agingLimit := 40, lampMode := .slow }

/-- Tables with one entry of each kind, and two watches. -/
def tables : Tables where
  settings := { Settings.default with frameCount := 1, signalCount := 1, watchCount := 2, faultCount := 1 }
  frames := [frame0]
  signals := [signal0]
  watches := [level0, gated1]
  faults := [fault0]

/-- A port on its bus. -/
def livePort : PortRecord := { PortRecord.fresh 500 with state := .errorActive }

/-- A record of the fault's code. -/
def record0 : Record where
  code := 4610
  system := .engine
  cls := .selfHealing
  severity := 3
  occurrences := 1
  first := ⟨1, 10⟩
  last := ⟨1, 10⟩
  cleanRides := 0
  firstFrame := []
  latestFrame := none

/-- A confirmation of the fault. -/
def confirm0 : ConfirmEntry := ⟨4610, .engine, .selfHealing, 3, ⟨2, 20⟩, []⟩

/-- A report of the fault's code. -/
def report0 : ReportEntry := freshReport 4610 .engine 3 .confirmed 10

/-- A module in RUNNING with these tables. -/
def running : State :=
  { State.reset with
    power := .running
    stage := .done
    battery := 120
    band := .normal
    retained := { Retained.initial with mark := true, slots := List.replicate 32 .empty, rideNumber := 2, rideOpen := true }
    store := { Store.initial with state := .valid, tables := tables }
    configured := true
    working := tables
    staging := tables
    control := livePort
    vehicle := livePort
    monitor := [.initial (some 1550)]
    cache := [.initial]
    watches := [⟨.untested, some .notYet, 0⟩, ⟨.untested, some .gated, 0⟩]
    faults := [⟨.notTested, 0⟩]
    pacer := { Pacer.stopped with running := true, rate := 4 }
    statusPeriod := some 500
    keySettled := some true
    keyLine := true
    free := ⟨[0, 0, 0, 0], 0⟩ }

/-- The same module in AFTER_RUN. -/
def afterRun : State :=
  { running with power := .afterRun, keyLine := false, keySettled := some false
                 watches := [⟨.untested, some .notRunning, 0⟩, ⟨.untested, some .notRunning, 0⟩] }

/-- The same module in STARTING, waiting for the KEY line. -/
def waiting : State :=
  { running with power := .starting, stage := .waitKey, keySettled := none, control := .fresh 500, vehicle := .fresh 500,
                 pacer := .stopped, statusPeriod := none }

/-- A slot of the fault memory holds a slot value, and the write queue a queue. -/
def State.withMemory (s : State) (x : Slot) (q : List WriteEntry) : State :=
  { s with writeQueue := q, retained := { s.retained with slots := s.retained.slots.set 0 x } }

/-- The state after a command, or the state itself where the command stops. -/
def after (c : Instr) (s : State) : State :=
  match exec c s with
  | .next t => t
  | .fault _ => s
  | .refused _ => s

/-- A frame of two bytes for `frame0`. -/
def frame (b : Byte) : CanFrame := ⟨.standard, 0x100, .data, 2, [b, 0]⟩

/-! ## Well-formedness: one ill-formed frame for each check (R3) -/

theorem test_refuses_standard_identifier :
    CanFrame.wellFormed ⟨.standard, 2048, .data, 0, []⟩ = false := by decide
theorem test_refuses_extended_identifier :
    CanFrame.wellFormed ⟨.extended, 536870912, .data, 0, []⟩ = false := by decide
theorem test_refuses_data_count : CanFrame.wellFormed ⟨.standard, 1, .data, 2, [0]⟩ = false := by decide
theorem test_refuses_remote_data : CanFrame.wellFormed ⟨.standard, 1, .remote, 2, [0]⟩ = false := by decide
theorem test_accepts_length_code_15 :
    CanFrame.wellFormed ⟨.standard, 2047, .data, 15, [0, 0, 0, 0, 0, 0, 0, 0]⟩ = true := by decide
theorem test_malformed_frame_is_not_received :
    exec (.frameReceived .control ⟨.standard, 2048, .data, 0, []⟩) running = .next running := rfl
theorem test_no_word_spells_a_command : decodeTableWord 8 1 = none := rfl

/-! ## The manual's worked cases -/

/-- 02, "Worked example: counter and checksum tests". -/
theorem test_checksum_76 :
    FrameEntry.checksum { frame0 with checksumByte := 0, seed := 0 } [0x76, 0x01, 0x02] = 0x76 := by decide +kernel
theorem test_checksum_6B :
    FrameEntry.checksum { frame0 with checksumByte := 0, seed := 0 } [0x6B, 0x01, 0x03] = 0x6B := by decide +kernel
/-- The rows of the counter table: 14 after 14, then 1 after 14 with two lost. -/
theorem test_counter_repeated :
    judge { frame0 with counterPresent := true } { FrameRecord.initial none with state := .onTime, counter := some 14 }
      [14, 0] = ⟨.repeated, some .repeated, 0⟩ := by decide
theorem test_counter_skips_two :
    judge { frame0 with counterPresent := true } { FrameRecord.initial none with state := .onTime, counter := some 14 }
      [1, 0] = ⟨.fresh, some .skip, 2⟩ := by decide
/-- 02, the 10 ms frame: 7 ms after its predecessor EARLY, 13 ms LATE. -/
theorem test_early_and_late :
    classify frame0 { FrameRecord.initial none with state := .onTime, last := some 110 } false 117 = .early
    ∧ classify frame0 { FrameRecord.initial none with state := .early, last := some 117 } false 130 = .late := by
  decide
/-- R34: nine eighths of 12 and of 50, rounded up. -/
theorem test_effective_periods : effective true 12 = 14 ∧ effective true 50 = 57 := by decide
/-- 03, "Worked scaling cases". -/
theorem test_scaling_lean_angle :
    let e := { signal0 with extraction := .wordBE, signed := true, gain := 5, shift := 3, offset := 0 }
    e.raw [0xFB, 0x2E] = -1234 ∧ e.scale (-1234) = -772 := by decide
theorem test_scaling_low_byte_first :
    let e := { signal0 with extraction := .wordLE, gain := 1, shift := 2, offset := 0 }
    e.raw [0x40, 0x1F] = 8000 ∧ e.scale 8000 = 2000 := by decide
theorem test_scaling_bits :
    let e := { signal0 with extraction := .bits, bitOffset := 2, width := 3 }
    e.raw [0xB6] = 5 ∧ SignalEntry.raw { e with signed := true } [0xB6] = -3 := by decide
theorem test_scaling_saturates :
    SignalEntry.scale { signal0 with gain := 32767, offset := 8388607 } 65535 = 2147483647
    ∧ SignalEntry.scale { signal0 with gain := -32768, offset := -8388608 } 65535 = -2147483648 := by decide
/-- 11, "Example: the merged heal of the report storm". -/
theorem test_report_bytes :
    reportBytes ⟨8401, .brake, 4, .healed, true, 40110, 0⟩ 1 = [0x20, 0xD1, 0x3D, 0x01, 0x00, 0x00, 0x9C, 0xAE] := by
  decide
/-- 11, the example of WRITE_TABLE: fault 11 gets an up step of 4. -/
theorem test_write_table_example :
    decodeRequest [0x08, 0x04, 0x0B, 0x05, 0x00, 0x00, 0x00, 0x04] = .writeTable 4 11 5 4
    ∧ FaultEntry.writeField FaultEntry.blank 4 5 = .ok { FaultEntry.blank with upStep := 4 } := by decide
/-- 05, "an injector fault code flickering to confirmation": 14 and a FAIL confirm; HEALING 2 and a PASS heal. -/
theorem test_injector_confirms_and_heals :
    let e := { fault0 with threshold := 20, upStep := 6, downStep := 2, passResets := false }
    sampleFault e false true ⟨.pending, 14⟩ = (⟨.active, 20⟩, .confirmation)
    ∧ sampleFault e false false ⟨.active, 20⟩ = (⟨.healing, 18⟩, .nothing)
    ∧ sampleFault e false true ⟨.healing, 10⟩ = (⟨.healing, 16⟩, .nothing)
    ∧ sampleFault e false false ⟨.healing, 2⟩ = (⟨.passed, 0⟩, .heal) := by decide
/-- R139: a rate of 4 opens slots 3, 7, 11 and 15. -/
theorem test_open_slots : (List.range 16).filter (slotOpen 4) = [3, 7, 11, 15] := by decide
/-- R178: short frames and unknown codes are bad requests, and a CLEAR of scope CODE needs its code. -/
theorem test_bad_requests :
    decodeRequest [] = .badRequest 0 ∧ decodeRequest [0x0D] = .badRequest 0x0D ∧ decodeRequest [0x02] = .badRequest 2
    ∧ decodeRequest [0x0A, 3, 0x12] = .badRequest 0x0A ∧ decodeRequest [0x0A, 0] = .clear 0 0 := by decide

/-! ## One step of the commands -/

theorem test_frame_received_writes_its_signal :
    (after (.frameReceived .control (frame 120)) running).cache = [⟨120, .valid, some 0⟩] := by decide
theorem test_frame_received_is_forwarded :
    (after (.frameReceived .control (frame 120)) running).vehicle.queue = [⟨frame 120, false⟩] := by decide
theorem test_frame_received_confirms :
    (after (.frameReceived .control (frame 120)) running).faults = [⟨.active, 1⟩] := by decide
theorem test_request_frame_is_answered :
    (after (.frameReceived .vehicle ⟨.standard, 0x7C0, .data, 1, [0x09]⟩) running).vehicle.queue
      = [⟨ownFrame 0x7C1 [0x09, 0x00], false⟩] := by decide
theorem test_receive_error_counts : (after (.receiveError .control) running).control.rxErrors = 1 := by decide
theorem test_transmit_error_enters_bus_off :
    (after (.transmitError .vehicle)
      { running with vehicle := { livePort with state := .errorPassive, txErrors := 248, queue := [⟨frame 0, false⟩] } }).vehicle
      = { livePort with state := .busOff, txErrors := 248, forwardDrop := 1 } := by decide
theorem test_recovery_after_128_sequences :
    (after (.recoverySequence .vehicle)
      { running with vehicle := { livePort with state := .busOff, txErrors := 250, recovery := 127 } }).vehicle
      = livePort := by decide
theorem test_timer_expiry_goes_missing :
    (after (.frameTimerExpiry 0) { running with monitor := [.initial (some 0)] }).monitor
      = [{ FrameRecord.initial none with state := .missing, missing := 1 }] := by decide
theorem test_write_begin_takes_the_first_empty_slot :
    (after .writeBegin { running with writeQueue := [.confirm confirm0] }).retained.slots[0]? = some (.writing 4610) := by
  decide
theorem test_confirm_write_makes_a_record :
    (after .confirmWriteComplete
      { State.withMemory running (.writing 4610) [.confirm confirm0] with write := some ⟨0, none, 0, 5⟩ }).retained.slots[0]?
      = some (.active { record0 with first := ⟨2, 20⟩, last := ⟨2, 20⟩ }) := by decide
theorem test_age_write_erases_at_the_limit :
    (after .ageWriteComplete
      { State.withMemory running (.writing 4610) [.age [4610]] with
        write := some ⟨0, some { record0 with cleanRides := 39 }, 0, 5⟩ }).retained.slots[0]? = some .empty := by decide
theorem test_supply_sample_hysteresis :
    (after (.supplySample 92) { running with band := .low }).band = .low
    ∧ (after (.supplySample 93) { running with band := .low }).band = .normal := by decide
/-- R158, R161, R165: a reset keeps the working tables in force; below 6.0 V a module held after a SERVICE_RESTART is
reset again. -/
theorem test_supply_dip_resets :
    (after (.supplySample 59) running).power = .starting ∧ (after (.supplySample 59) running).resetKind = .supplyDip
    ∧ (after (.supplySample 59) running).working = tables
    ∧ (after (.supplySample 59) { State.reset with resetKind := .serviceRestart }).resetKind = .supplyDip := by decide
/-- R164: the tenth sample makes the evaluation, with the band that it sets. -/
theorem test_supply_evaluation_is_the_tenth_sample :
    (let s : State :=
       { running with battery := 89, sampleCount := 9
                      working := { tables with watches := [{ gated1 with gatePresent := false }, level0] } }
     ((after .supplyEvaluation s).watches.map (·.result))[0]? = some .holds) := by decide
/-- R149: while a part waits outside a full queue it is still the next part. -/
theorem test_waiting_part_stays_next :
    (after (.readSignal 0) { running with vehicle := { livePort with queue := List.replicate 8 ⟨frame 0, false⟩ } }
      ).responder.nextPart = 0 := by decide
theorem test_startup_waits_for_the_key :
    (after .startup { State.reset with battery := 63 }).stage = .waitKey := by decide
theorem test_key_on_starts_a_ride :
    (after .keyOnSettled { waiting with retained := { running.retained with rideOpen := false } }).retained.rideNumber = 3 := by
  decide
theorem test_key_off_ends_the_ride : (after .keyOffSettled { running with keyLine := false }).power = .afterRun := by
  decide
theorem test_after_run_end_sleeps :
    (after .afterRunEnd afterRun).power = .standby ∧ (after .afterRunEnd afterRun).control.state = .off := by decide
theorem test_lamp_step_wraps :
    (after .lampStep { running with stepPos := 15 }).stepPos = 0
    ∧ (after .lampStep { running with stepPos := 15 }).boundaryDue = true := by decide
theorem test_pacer_slot_sends :
    (after .pacerSlot { running with pacer := { running.pacer with nextSlot := 3 }, reports := [report0] }).reports = [] := by
  decide
theorem test_status_frame_has_seven_bytes :
    ((after .statusExpiry running).vehicle.queue.map (·.frame.data.length)) = [7] := by decide
theorem test_crystal_stop_degrades : (after .crystalStop running).degraded = true := by decide
theorem test_commit_starts_the_store_write : (after .commit running).store.state = .writing := by decide
theorem test_clear_empties_a_slot :
    (after (.clear 0 0) (State.withMemory running (.active record0) [])).retained.slots[0]? = some .empty := by decide
theorem test_restart_is_pending : (after .restart running).responder.restartPending = true := by decide
theorem test_collapse_loses_the_mark : (after .supplyCollapse running).retained.mark = false := by decide
theorem test_step_runs_the_front :
    step { running with pending := [.crystalStop] } = exec .crystalStop { running with pending := [] } := rfl

/-! ## Witnesses: for each statement with hypotheses, what meets them, clause by clause -/

theorem witness_EmptyQueueRunsADueEventOrAMillisecond :
    (running.pending = [] ∧ running.due ≠ [])
    ∧ (State.reset.pending = [] ∧ State.reset.due = [] ∧ State.reset.write = none)
    ∧ (let s := { afterRun with pacer := .stopped, control := { livePort with queue := [⟨frame 0, false⟩] }
                                writeQueue := [.heal 4610 20], write := some ⟨0, some record0, 0, 5⟩ }
       s.pending = [] ∧ s.due = [] ∧ s.write = some ⟨0, some record0, 0, 5⟩ ∧ s.power = .afterRun) := by decide

theorem witness_EveryCommandCompletes :
    (Instr.frameReceived .control ⟨.standard, 2048, .data, 0, []⟩).wellFormed = false := by decide

theorem witness_CommandsLeaveTheQueueAlone : ∃ t, exec .crystalStop running = .next t := ⟨_, rfl⟩

/-- At the count where the state changes, and at the limit. -/
theorem witness_ReceiveErrorRaisesTheCount :
    (let s : State := { running with control := { livePort with rxErrors := 127 } }
     (s.port .control).state = .errorActive ∧ 128 ≤ min 255 ((s.port .control).rxErrors + 1))
    ∧ (State.port { running with control := { livePort with state := .errorPassive, rxErrors := 255 } } .control).state
      = .errorPassive := by decide

/-- A count at which the state changes and one at which it stays; a restart that becomes due. -/
theorem witness_TransmitSuccessSendsTheHead :
    ∀ n ∈ [1, 128],
      let p := { livePort with state := if n = 128 then .errorPassive else .errorActive, txErrors := n
                               queue := [⟨frame 0, false⟩] }
      let s : State := { running with vehicle := p, responder := { Responder.initial with restartPending := true } }
      ((s.port .vehicle).state = .errorActive ∨ (s.port .vehicle).state = .errorPassive)
      ∧ (s.port .vehicle).queue = ⟨frame 0, false⟩ :: []
      ∧ s.responder.restartPending = true ∧ s.responder.waiting = none := by decide

/-- At 119 and 120, where the state changes; at 247, the last count that stays on the bus, and at 248, with the OK frame
of a restart in the queue. -/
theorem witness_TransmitErrorRaisesTheCountOrEntersBusOff :
    ∀ n ∈ [119, 120, 247, 248],
      let p := { livePort with state := if n < 128 then .errorActive else .errorPassive, txErrors := n
                               queue := [⟨frame 0, true⟩] }
      ((State.port { running with vehicle := p } .vehicle).state = .errorActive
        ∨ (State.port { running with vehicle := p } .vehicle).state = .errorPassive)
      ∧ (State.port { running with vehicle := p } .vehicle).queue = ⟨frame 0, true⟩ :: [] := by decide

theorem witness_OnlyRecoveryMovesAPortOffItsBus :
    let s (n : Nat) : State := { running with vehicle := { livePort with state := .busOff, recovery := n } }
    ((s 126).port .vehicle).state = .busOff ∧ ((s 126).port .vehicle).recovery + 1 < 128
    ∧ 128 ≤ ((s 127).port .vehicle).recovery + 1 ∧ (State.reset.port .control).state = .off
    ∧ (frame 0).wellFormed = true := by decide

theorem hears_running (p : Port) : (running.port p).hears := by cases p <;> exact .inl rfl

/-- Two passive ports: one that a reception makes ERROR_ACTIVE, and one that it leaves ERROR_PASSIVE. -/
def passive (tx : Nat) : State :=
  let p := { livePort with state := .errorPassive, txErrors := tx, rxErrors := 128 }
  { running with control := p, vehicle := p }

theorem hears_passive (tx : Nat) (p : Port) :
    ((passive tx).port p).hears ∧ ((passive 0).port p).heard.state = .errorActive
    ∧ ((passive 128).port p).heard.state = .errorPassive := by
  cases p <;> exact ⟨.inr rfl, rfl, rfl⟩

theorem witness_UnknownFramesFollowTheDefaultRoute :
    (running.port .control).hears ∧ (running.port .vehicle).hears ∧ ((passive 0).port .vehicle).hears
    ∧ (let f : CanFrame := ⟨.extended, 5, .data, 0, []⟩; f.wellFormed = true ∧ f.format = .extended)
    ∧ (let f : CanFrame := ⟨.standard, 5, .remote, 8, []⟩; f.wellFormed = true ∧ f.kind = .remote)
    ∧ (let f : CanFrame := ⟨.standard, 5, .data, 0, []⟩
       f.wellFormed = true ∧ running.looksUp .vehicle f ∧ running.working.lookup .vehicle f.ident = none) :=
  ⟨hears_running _, hears_running _, (hears_passive 0 _).1, by decide, by decide, by decide,
    ⟨rfl, rfl, .inr (by decide)⟩, by decide⟩

theorem witness_ClashesAreCountedAndRequestFramesServed :
    running.vehicle.hears ∧ (passive 0).vehicle.hears
    ∧ (let f : CanFrame := ⟨.standard, 0x7C2, .data, 0, []⟩
       f.wellFormed = true ∧ f.ident ≠ running.working.settings.requestId
       ∧ f.ident = running.working.settings.statusId)
    ∧ (let f : CanFrame := ⟨.standard, 0x7C0, .data, 1, [0x0B]⟩
       f.wellFormed = true ∧ f.ident = running.working.settings.requestId) :=
  ⟨hears_running .vehicle, (hears_passive 0 .vehicle).1, by decide, by decide⟩

theorem witness_KnownFramesAreMonitoredAndRouted :
    (frame 120).wellFormed = true ∧ (running.port .control).hears ∧ running.looksUp .control (frame 120)
    ∧ running.working.lookup .control (frame 120).ident = some 0 ∧ running.working.frames[0]? = some frame0
    ∧ running.power = .running ∧ afterRun.power = .afterRun ∧ (afterRun.port .control).hears
    ∧ afterRun.looksUp .control (frame 120) ∧ afterRun.working.lookup .control (frame 120).ident = some 0
    ∧ ((passive 0).port .control).hears
    ∧ (judge frame0 (running.recordOf 0) (frame 120).data).verdict = .fresh
    ∧ (judge frame0 (running.recordOf 0) [0]).verdict ≠ .fresh
    ∧ (running.cache[0]? = some .initial ∧ entryAt 1 tables.signals 0 = some signal0 ∧ signal0.frameEntry = 0
      ∧ signal0.naPresent = false)
    ∧ (let g := { signal0 with naPresent := true, naRaw := 255 }
       g.raw (frame 255).data = g.naRaw ∧ g.raw (frame 254).data ≠ g.naRaw) :=
  ⟨by decide, hears_running _, ⟨rfl, rfl, .inl rfl⟩, by decide, rfl, rfl, rfl, .inl rfl, ⟨rfl, rfl, .inl rfl⟩,
    by decide, (hears_passive 0 _).1, by decide, by decide, by decide, by decide⟩

/-- A wrong length; a wrong checksum; a frame without tests; the first frame; the next counter, the same, and skips of
1 and of 14. -/
theorem witness_ArrivalsAreJudgedInOrder :
    let e := { frame0 with counterPresent := true }
    let r (n : Nat) : FrameRecord := { FrameRecord.initial none with state := .onTime, counter := some n }
    [0].length ≠ e.length
    ∧ ([1, 0].length = e.length ∧ { e with checksumPresent := true, checksumByte := 1 }.checksum [1, 0] ≠ [1, 0].getD 1 0)
    ∧ frame0.counterPresent = false
    ∧ (e.counterPresent = true ∧ (FrameRecord.initial none).counter = none)
    ∧ (e.counterOf [0, 0] = (15 + 1) % 16 ∧ (r 15).counter = some 15 ∧ (r 15).state ≠ .missing)
    ∧ (e.counterOf [15, 0] = 15)
    ∧ (e.counterOf [1, 0] ≠ (15 + 1) % 16 ∧ e.counterOf [1, 0] ≠ 15)
    ∧ (e.counterOf [14, 0] ≠ (15 + 1) % 16 ∧ e.counterOf [14, 0] ≠ 15) := by decide

theorem witness_ChecksumSeesEveryChangedByte :
    [(1 : Byte), 2].length = [(1 : Byte), 3].length ∧ 1 < [(1 : Byte), 2].length ∧ 1 ≠ frame0.checksumByte
    ∧ (∀ k, k ≠ 1 → [(1 : Byte), 2][k]? = [(1 : Byte), 3][k]?) ∧ [(1 : Byte), 2][1]? ≠ [(1 : Byte), 3][1]? := by
  refine ⟨rfl, by decide, by decide, ?_, by decide⟩
  intro k h
  match k, h with
  | 0, _ => rfl
  | _ + 2, _ => rfl

/-- The verdicts; the two timings; the states; periods of 7, 8, 12 and 13 ms; and a period that equals both max and
timeout, at which the timer set by the arrival before it expires. -/
theorem witness_RecordsFollowTheirArrivals :
    let r : FrameRecord := { FrameRecord.initial none with state := .onTime, last := some 100 }
    (⟨.damaged, some .length, 0⟩ : Judgement).verdict = .damaged
    ∧ (⟨.repeated, some .repeated, 0⟩ : Judgement).verdict = .repeated
    ∧ (⟨.fresh, none, 0⟩ : Judgement).verdict = .fresh
    ∧ FrameEntry.blank.timing = .event ∧ frame0.timing = .periodic
    ∧ (FrameRecord.initial none).state = .neverSeen ∧ (FrameRecord.initial none).afterExpiry.state = .missing
    ∧ r.state ≠ .neverSeen ∧ r.state ≠ .missing ∧ r.last = some 100
    ∧ 107 - 100 < frame0.minPeriod ∧ frame0.minPeriod ≤ 108 - 100
    ∧ 112 - 100 ≤ frame0.maxPeriod ∧ frame0.maxPeriod < 113 - 100
    ∧ 114 - 100 ≤ (frame0.maxPeriod * 9 + 7) / 8 ∧ (frame0.maxPeriod * 9 + 7) / 8 < 115 - 100
    ∧ (let e := { frame0 with timeout := 12 }
       e.minPeriod ≤ 112 - 100 ∧ 112 - 100 ≤ e.maxPeriod ∧ 112 = 100 + e.timeout ∧ e.maxPeriod ≤ e.timeout) := by decide

/-- One millisecond before the expiry time, and at it. -/
theorem witness_TimerExpiryMakesTheEntryMissing :
    let s (n : Nat) : State := { running with retained := { running.retained with rideClock := n } }
    (s 1549).power = .running ∧ (s 1549).monitor[0]? = some (.initial (some 1550))
    ∧ (FrameRecord.initial (some 1550)).timer = some 1550 ∧ (s 1549).now < 1550 ∧ 1550 ≤ (s 1550).now := by decide

/-- Width 1 and width 8; the sign bit set and clear. -/
theorem witness_RawNumbersLieInTheirRange :
    ∀ w ∈ [1, 8], 1 ≤ w ∧ w ≤ 8
      ∧ (let e := { SignalEntry.blank with width := w }
         e.signed = true ∧ 2 ^ (w - 1) ≤ e.rawUnsigned [0xFF] ∧ e.rawUnsigned [0] < 2 ^ (w - 1)) := by decide

/-- The ends of every range; gain 0; and sums beyond either end. -/
theorem witness_ScalingRoundsTowardsMinusInfinity :
    (∀ r ∈ [(-32768 : Int), 65535], -32768 ≤ r ∧ r ≤ 65535)
    ∧ (∀ g ∈ [(-32768 : Int), 0, 32767], -32768 ≤ g ∧ g ≤ 32767)
    ∧ signal0.shift ≤ 15 ∧ (signal0.shift = 0)
    ∧ (∀ o ∈ [(-8388608 : Int), 8388607], -8388608 ≤ o ∧ o ≤ 8388607)
    ∧ (2147483647 : Int) < 65535 * 32767 + 8388607
    ∧ (65535 * -32768 + -8388608 : Int) < -2147483648 := by decide

theorem witness_SignalsFollowTheirFrames :
    let s : State :=
      { running with cache := [⟨7, .valid, some 5⟩]
                     monitor := [{ FrameRecord.initial (some 55) with state := .onTime, last := some 5 }] }
    s.signalsFollowFrames ∧ ∃ t, exec (.frameTimerExpiry 0) s = .next t := by
  refine ⟨⟨fun _ => rfl, ?_⟩, _, rfl⟩
  intro x hx _
  simp [running, tables, Tables.signalList, inUse, signal0, SignalEntry.blank, Settings.default] at hx
  subst hx
  decide

theorem witness_ClosedGatesLeaveWatchesUntested :
    tables.watches.length = running.watches.length
    ∧ (∀ (w g : WatchEntry) (i : Nat), tables.watches[i]? = some w → w.gatePresent = true →
      tables.watches[w.gateWatch]? = some g → g.gatePresent = false)
    ∧ (∀ (w : WatchEntry) (r : WatchRecord) (i : Nat), tables.watches[i]? = some w → running.watches[i]? = some r →
      gateOpen running.watches w = false → r.result = .untested)
    ∧ (watchPass running.view tables.watches (reachSupply running.view) running.watches).map (·.record)
        = [⟨.untested, some .notYet, 0⟩, ⟨.untested, some .gated, 0⟩]
    ∧ gateOpen running.watches gated1 = false
    ∧ (let reach (w : WatchEntry) : Option Reach := if w = level0 then some (.evaluate (some true)) else none
       gateOpen ((watchPass running.view tables.watches reach running.watches).map (·.record)) gated1 = true
       ∧ reach gated1 = none ∧ gated1.stateDriven = true ∧ { gated1 with kind := .code }.stateDriven = false)
    ∧ (let before : List WatchRecord := [⟨.holds, none, 0⟩, ⟨.clear, none, 0⟩]
       let reach (w : WatchEntry) : Option Reach := if w = level0 then some (.evaluate (some false)) else none
       gateOpen before gated1 = true
       ∧ gateOpen ((watchPass running.view tables.watches reach before).map (·.record)) gated1 = false) := by
  refine ⟨rfl, ?_, ?_, by decide, by decide, by decide, by decide⟩
  · intro w g i h1 h2 h3
    match i, h1 with
    | 0, h => obtain rfl : level0 = w := Option.some.inj h; exact absurd h2 (by decide)
    | 1, h => obtain rfl : gated1 = w := Option.some.inj h; obtain rfl : level0 = g := Option.some.inj h3; rfl
  · intro w r i _ h _
    match i, h with
    | 0, h => obtain rfl := Option.some.inj h; rfl
    | 1, h => obtain rfl := Option.some.inj h; rfl

/-- A watch that sends FAIL, one that sends PASS, one kept, and one made UNTESTED; a suspended watch; a signal that is
VALID and one that is not; a pair at its skew and past it; an arrival with a defect and one without. -/
theorem witness_SamplesAgreeWithResults :
    let v (x : Int) : WatchView := ⟨[⟨x, .valid, some 5⟩], .errorActive, .errorActive, .normal, 9⟩
    let pass (x : Int) := watchPass (v x) tables.watches (fun w => some (.evaluate ((v x).stateTest w))) running.watches
    let pair : WatchEntry := { WatchEntry.blank with kind := .pair, signalB := 1, skew := 20, limit := 5 }
    let two (n : Nat) : WatchView :=
      ⟨[⟨0, .valid, some 5⟩, ⟨6, .valid, some n⟩], .errorActive, .errorActive, .low, 9⟩
    ((pass 101)[0]? = some ⟨⟨.holds, none, 9⟩, some true⟩ ∧ (pass 100)[0]? = some ⟨⟨.clear, none, 9⟩, some false⟩
      ∧ (pass 100)[1]? = some ⟨⟨.untested, some .gated, 9⟩, none⟩
      ∧ (watchPass (v 0) tables.watches (fun _ => none) running.watches)[0]?
        = some ⟨⟨.untested, some .notYet, 0⟩, none⟩)
    ∧ ({ pair with needsNormal := true }.needsNormal = true ∧ (two 25).band ≠ .normal)
    ∧ ((v 0).cache[0]? = some ⟨0, .valid, some 5⟩ ∧ (CacheEntry.initial).status ≠ .valid)
    ∧ ((two 25).stateTest pair = some true ∧ (two 26).stateTest pair = none)
    ∧ (DefectMask.has ⟨true, false, false, false⟩ .length = true
      ∧ DefectMask.has ⟨true, false, false, false⟩ .checksum = false) := by decide

/-- Threshold 20, up step 6, down step 2: each state with a counter that agrees, at either side of the threshold. -/
def slowFault : FaultEntry := { fault0 with threshold := 20, upStep := 6, downStep := 2, passResets := false }

/-- A sample context with one fault, and what the Debouncer holds of it. -/
def context (e : FaultEntry) : SampleContext := ⟨{ tables with faults := [e] }, false, [⟨7, .valid, some 5⟩], ⟨2, 20⟩⟩

def debounced (f : FaultState) : Debounced := ⟨[f], [⟨false, false⟩], []⟩

theorem witness_FailSamplesRaiseTheCounter :
    slowFault.inRange ∧ fault0.inRange
    ∧ (∀ f ∈ [(⟨.notTested, 0⟩ : FaultState), ⟨.passed, 0⟩, ⟨.pending, 13⟩, ⟨.pending, 14⟩, ⟨.healing, 13⟩,
        ⟨.healing, 14⟩, ⟨.active, 20⟩], f.agreesWith slowFault)
    ∧ min slowFault.threshold (14 + slowFault.upStep) = slowFault.threshold
    ∧ min slowFault.threshold (13 + slowFault.upStep) < slowFault.threshold ∧ fault0.threshold ≤ fault0.upStep := by
  simp [FaultEntry.inRange, FaultState.agreesWith, slowFault, fault0, FaultEntry.blank]

/-- A confirmation with one snapshot, and a FAIL that confirms nothing. -/
theorem witness_FailSamplesHandOn :
    (let e := { fault0 with snapshotLength := 1, snapshots := [0, 0, 0, 0, 0, 0] }
     entryAt (context e).tables.settings.faultCount (context e).tables.faults 0 = some e
     ∧ (debounced ⟨.notTested, 0⟩).faults[0]? = some ⟨.notTested, 0⟩
     ∧ (sampleFault e false true ⟨.notTested, 0⟩).2 = .confirmation
     ∧ (e.snapshots.take e.snapshotLength)[0]? = some 0 ∧ (context e).cache[0]? = some ⟨7, .valid, some 5⟩
     ∧ (debounced ⟨.notTested, 0⟩).flags[0]? = some ⟨false, false⟩)
    ∧ (sampleFault slowFault false true ⟨.notTested, 0⟩).2 ≠ .confirmation := by decide

theorem witness_PassSamplesLowerTheCounter :
    slowFault.inRange ∧ slowFault.cls = .selfHealing ∧ fault0.passResets = true ∧ fault0.threshold ≤ fault0.downStep
    ∧ (∀ f ∈ [(⟨.notTested, 0⟩ : FaultState), ⟨.pending, 2⟩, ⟨.pending, 3⟩, ⟨.healing, 2⟩, ⟨.healing, 3⟩,
        ⟨.active, 20⟩], f.agreesWith slowFault)
    ∧ (⟨.active, 1⟩ : FaultState).agreesWith fault0 := by
  simp [FaultEntry.inRange, FaultState.agreesWith, slowFault, fault0, FaultEntry.blank]

/-- A heal, and a PASS that heals nothing. -/
theorem witness_PassSamplesHandOn :
    entryAt (context fault0).tables.settings.faultCount (context fault0).tables.faults 0 = some fault0
    ∧ (debounced ⟨.active, 1⟩).faults[0]? = some ⟨.active, 1⟩
    ∧ (sampleFault fault0 false false ⟨.active, 1⟩).2 = .heal
    ∧ (sampleFault slowFault false false ⟨.active, 20⟩).2 ≠ .heal := by decide

theorem witness_LatchedFaultsWaitForAVerifiedRide :
    let t := { tables with faults := [{ fault0 with cls := .latched }] }
    let x : SampleContext := ⟨t, false, [], ⟨1, 1⟩⟩
    entryAt x.tables.settings.faultCount x.tables.faults 0 = some { fault0 with cls := .latched }
    ∧ ([(⟨.active, 1⟩ : FaultState)])[0]? = some ⟨.active, 1⟩ ∧ x.verified = false := by decide

theorem countersSound_running : running.countersSound := by
  simp [State.countersSound, State.tablesInRange, Tables.faultsInRange, FaultEntry.inRange, running, tables, fault0,
    FaultEntry.blank, Tables.faultList, inUse, FaultState.agreesWith, Settings.default, Store.initial]

theorem witness_CountersAgreeWithStates :
    running.countersSound ∧ (∃ t, exec (.frameReceived .control (frame 120)) running = .next t)
    ∧ ClearScope.matchesIndex .all running.working 0 = true ∧ 0 < running.faults.length
    ∧ fault0.threshold = 1 ∧ (⟨.active, 1⟩ : FaultState).agreesWith fault0 :=
  ⟨countersSound_running, ⟨_, rfl⟩, by decide, by decide, rfl, rfl⟩

theorem witness_DerivationFollowsQueueThenSlots :
    (∀ y ∈ [WriteEntry.age [4610]], (∀ z, y = .confirm z → z.code ≠ fault0.code) ∧ ∀ time, y ≠ .heal fault0.code time)
    ∧ confirm0.code = fault0.code
    ∧ (∃ r, Slot.active r ∈ [Slot.active record0] ∧ r.code = fault0.code)
    ∧ (∀ r, Slot.active r ∈ [Slot.empty] → r.code ≠ fault0.code) := by
  refine ⟨?_, by decide, ⟨record0, by simp, by decide⟩, by simp⟩
  intro y hy
  simp only [List.mem_singleton] at hy
  subst hy
  exact ⟨nofun, nofun⟩

/-- Each head with a slot and without one. -/
theorem witness_WritesBeginWithTheHead :
    running.power = .running ∧ running.write = none ∧ running.band ≠ .low
    ∧ (confirmSlot running.retained.slots confirm0).isSome = true
    ∧ confirmSlot (List.replicate 32 (.active { record0 with code := 1, severity := 4 })) confirm0 = none
    ∧ (∃ r, Slot.active r ∈ (State.withMemory running (.active record0) [.heal 4610 20]).retained.slots ∧ r.code = 4610)
    ∧ (∀ r, Slot.active r ∈ [Slot.stored record0] → r.code ≠ 4610)
    ∧ (∃ r, Slot.stored r ∈ (State.withMemory running (.stored record0) [.age [4610]]).retained.slots ∧ r.code = 4610)
    ∧ (∃ e ∈ running.working.faultList, e.code = 4610)
    ∧ (∀ r, Slot.stored r ∈ [Slot.active record0] → r.code ≠ 4610)
    ∧ (∀ e ∈ running.working.faultList, e.code ≠ 1) :=
  ⟨rfl, rfl, by decide, by decide, by decide, ⟨record0, by decide, rfl⟩, by simp, ⟨record0, by decide, rfl⟩,
    by decide, by simp, by decide⟩

/-- A record of the code; an EMPTY slot; a STORED record; an ACTIVE record of severity 2 under 3; and none of these. -/
theorem witness_SlotSearchFollowsItsFourSteps :
    let other (n : Nat) : Record := { record0 with code := 1, severity := n }
    (∃ r, (Slot.stored record0 = .active r ∨ Slot.stored record0 = .stored r) ∧ r.code = confirm0.code)
    ∧ (∀ y ∈ [Slot.active (other 2), .empty], ¬ ∃ r, (y = .active r ∨ y = .stored r) ∧ r.code = confirm0.code)
    ∧ (∀ y ∈ [Slot.active (other 3), .stored (other 4)],
        ¬ ∃ r, (y = .active r ∨ y = .stored r) ∧ r.code = confirm0.code)
    ∧ Slot.empty ∉ [Slot.active (other 3), .stored (other 4)]
    ∧ (∀ r, Slot.stored r ∉ [Slot.active (other 2)]) ∧ (other 2).severity < confirm0.severity
    ∧ (∀ r, Slot.active r ∈ [Slot.active (other 3)] → confirm0.severity ≤ r.severity) := by
  simp [confirm0, record0]

/-- The three kinds of head with a write in progress; the aging limit not reached at 38 and reached at 39. -/
theorem witness_WriteCompletionsFillTheSlot :
    let s (q : WriteEntry) (b : Option Record) : State :=
      { State.withMemory running (.writing 4610) [q] with write := some ⟨0, b, 0, 5⟩ }
    (s (.confirm confirm0) none).limitPassed = false
    ∧ { afterRun with limitPassed := true }.limitPassed = true
    ∧ (s (.confirm confirm0) none).write = some ⟨0, none, 0, 5⟩
    ∧ (s (.confirm confirm0) (some record0)).write = some ⟨0, some record0, 0, 5⟩
    ∧ (s (.heal 4610 20) (some record0)).writeQueue = [.heal 4610 20]
    ∧ (s (.age [4610]) (some record0)).writeQueue = [.age [4610]]
    ∧ (s (.age [4610]) (some record0)).working.faultOf record0.code = some fault0
    ∧ (∃ e ∈ tables.faultList, e.code = 4610) ∧ (∀ e ∈ tables.faultList, e.code ≠ 1)
    ∧ fault0.agingLimit ≠ 0 ∧ min 250 (38 + 1) < fault0.agingLimit ∧ fault0.agingLimit ≤ min 250 (39 + 1) := by decide

theorem witness_FaultMemoryStaysSound :
    let s := State.withMemory running (.active record0) [.confirm confirm0]
    s.retained.mark = true ∧ s.memorySound ∧ ∃ t, exec .writeBegin s = .next t := by
  refine ⟨rfl, fun _ => ⟨by decide, by decide, by decide, fun _ _ => by decide, trivial, ?_⟩, _, rfl⟩
  intro x hx
  simp [State.withMemory, running, List.replicate, Retained.initial] at hx
  rcases hx with rfl | rfl
  · exact ⟨⟨by decide, by decide, by decide⟩, rfl⟩
  · trivial

theorem witness_PipelineQueuesStaySound :
    let s : State := { running with writeQueue := List.replicate 8 (.heal 4610 20), reports := [report0] }
    s.writeQueueSound ∧ reportsOrdered s.reports
    ∧ (∃ t, exec (.frameReceived .control (frame 120)) s = .next t)
    ∧ 8 ≤ (⟨s.writeQueue, s.retained.flags, s.reports, 0⟩ : HandedTo).writes.length
    ∧ (⟨s.writeQueue.tail, s.retained.flags, s.reports, 0⟩ : HandedTo).writes.length < 8 := by
  refine ⟨⟨by decide, ?_, by decide⟩, ⟨by decide, by decide, by decide⟩, ⟨_, rfl⟩, by decide, by decide⟩
  intro x hx
  obtain rfl := List.eq_of_mem_replicate hx
  trivial

theorem witness_PortsStaySound : running.portsSound ∧ ∃ t, exec (.receiveError .control) running = .next t := by
  refine ⟨?_, _, rfl⟩
  simp [State.portsSound, running, PortRecord.sound, livePort, PortRecord.fresh, State.reset]

/-- A fault in ACTIVE makes the demand of its system, and of no other. -/
theorem witness_LampModesStayAsTheDemandGives :
    running.lampsSound ∧ (∃ t, exec (.frameReceived .control (frame 120)) running = .next t)
    ∧ (fault0, (⟨.active, 1⟩ : FaultState)) ∈ tables.faultList.zip [⟨.active, 1⟩] ∧ fault0.system = .engine
    ∧ lampDemand tables [⟨.active, 1⟩] .engine = .slow ∧ lampDemand tables [⟨.active, 1⟩] .brake = .off := by
  refine ⟨⟨by decide, by decide, by decide, fun h => absurd rfl h⟩, ⟨_, rfl⟩, by decide, rfl, by decide, by decide⟩

/-- At the greatest ride number. -/
theorem witness_RideNumberNeverDecreases :
    let s : State := { afterRun with keyLine := true, retained := { running.retained with rideNumber := 65535 } }
    s.retained.mark = true ∧ s.retained.rideNumber ≤ 65535
    ∧ exec .keyOnSettled s = .next (after .keyOnSettled s) ∧ (after .keyOnSettled s).retained.mark = true :=
  ⟨rfl, by decide, rfl, rfl⟩

/-- The small tables meet the checks of R159, entry by entry. -/
theorem tables_sound : tables.sound := by
  intro n i
  cases n with
  | settings => intro _; simp [Settings.sound, tables, Settings.default]
  | frames =>
    match i with
    | 0 => simp [Tables.entrySound, Tables.frameSound, entryAt, tables, Settings.default, frame0, FrameEntry.blank]
    | _ + 1 => simp [Tables.entrySound, entryAt, tables, Settings.default]
  | signals =>
    match i with
    | 0 => simp [Tables.entrySound, Tables.signalSound, entryAt, tables, Settings.default, signal0, SignalEntry.blank, frame0]
    | _ + 1 => simp [Tables.entrySound, entryAt, tables, Settings.default]
  | watches =>
    match i with
    | 0 =>
      simp only [Tables.entrySound, entryAt, tables, Settings.default]
      intro w h
      obtain rfl : level0 = w := by simpa using h
      refine ⟨by decide, by decide, by decide, nofun, by decide, nofun, fun _ => ⟨by decide, ?_⟩⟩
      intro j v hj hv
      match j with
      | 0 => exact absurd rfl hj
      | 1 => obtain rfl : gated1 = v := by simpa [entryAt] using hv
             decide
      | _ + 2 => simp [entryAt] at hv
    | 1 => simp [Tables.entrySound, Tables.watchSound, entryAt, tables, Settings.default, gated1, level0, WatchEntry.blank]
    | _ + 2 => simp [Tables.entrySound, entryAt, tables, Settings.default]
  | faults =>
    match i with
    | 0 => simp +contextual [Tables.entrySound, Tables.faultSound, entryAt, tables, Settings.default, fault0, FaultEntry.blank]
    | _ + 1 => simp [Tables.entrySound, entryAt, tables, Settings.default]

theorem witness_WorkingTablesChangeAtCommitAndStartAndStayConsistent :
    let s : State := { running with staging := { tables with settings := Settings.default } }
    exec .commit s = .next (after .commit s) ∧ (after .commit s).working.settings.faultCount = 0
    ∧ s.working.settings.faultCount = 1 ∧ s.tablesSound :=
  ⟨rfl, by decide, by decide, tables_sound, fun _ => tables_sound⟩

/-- Steps 14 and 15; no bulb check, one with two boundaries to go, and its last boundary. -/
theorem witness_LampsFollowTheirCycle :
    running.power = .running ∧ { running with stepPos := 15 }.stepPos < 16
    ∧ (let s : State := { running with boundaryDue := true }
       s.boundaryDue = true ∧ s.bulbCheck = none
       ∧ { s with bulbCheck := some 2 }.bulbCheck = some (0 + 2) ∧ { s with bulbCheck := some 1 }.bulbCheck = some 1) := by
  decide

/-- A full queue whose codes are 1 to 16, of severity 2. -/
def fullReports : List ReportEntry := (List.range 16).map fun i => freshReport (i + 1) .engine 2 .confirmed 0

theorem witness_ReportQueueTakesEvents :
    reportsOrdered fullReports ∧ reportsOrdered fullReports.tail ∧ report0.superseded = false
    ∧ (fullReports = [] ++ freshReport 1 .engine 2 .confirmed 0 :: fullReports.tail)
    ∧ ((∀ e ∈ fullReports, e.code ≠ report0.code) ∧ fullReports.tail.length < 16 ∧ fullReports.length = 16)
    ∧ (∀ e ∈ fullReports, { report0 with severity := 2 }.severity ≤ e.severity)
    ∧ (∃ e ∈ fullReports, e.severity < report0.severity) :=
  ⟨⟨by decide, by decide, by decide⟩, ⟨by decide, by decide, by decide⟩, rfl, rfl, by decide, by decide, by decide⟩

/-- Slot 3 of a rate of 4 is open and slot 2 is closed; the last slot is slot 15. -/
theorem witness_PacerSlotsSendTheHead :
    let s (n : Nat) : State := { running with pacer := { running.pacer with nextSlot := n }, reports := [report0] }
    (s 3).pacer.running = true ∧ (s 15).pacer.nextSlot < 16
    ∧ (s 3).pacer.nextSlot * (s 3).pacer.rate / 16 < ((s 3).pacer.nextSlot + 1) * (s 3).pacer.rate / 16
    ∧ ¬ (s 2).pacer.nextSlot * (s 2).pacer.rate / 16 < ((s 2).pacer.nextSlot + 1) * (s 2).pacer.rate / 16
    ∧ (s 3).reports = [report0] ∧ (s 3).vehicle.state = .errorActive ∧ (s 3).vehicle.queue.length < 8 := by decide

/-- Rates 1 and 16. -/
theorem witness_OpenSlotsSpreadOverTheWindow : (1 ≤ 16 ∧ 16 ≤ 16) ∧ (1 ≤ 1 ∧ 1 ≤ 16) := by decide

/-- A vehicle port whose queue is full. -/
def fullPort : PortRecord := { livePort with queue := List.replicate 8 ⟨frame 0, false⟩ }

theorem witness_StatusTimerSendsAndRestarts :
    running.statusPeriod.isSome = true ∧ running.vehicle.state = .errorActive ∧ running.vehicle.queue.length < 8
    ∧ 8 ≤ fullPort.queue.length ∧ { livePort with state := .busOff }.state = .busOff := by decide

/-- The greatest value of every content. -/
theorem witness_BroadcastLayoutsLoseNothing :
    let e : ReportEntry := ⟨65535, .brake, 4, .aged, true, 4294967295, 0⟩
    e.code < 65536 ∧ 1 ≤ e.severity ∧ e.severity ≤ 4 ∧ e.eventTime < 4294967296 ∧ 255 ≤ 255
    ∧ reportBytes e 255 = reportBytes e 255 ∧ 64 ≤ 64 ∧ 32 ≤ 32 := by decide

theorem witness_ResponderFramesJoinWaitOrAreDiscarded :
    running.vehicle.state = .errorActive ∧ running.vehicle.queue.length < 8 ∧ 8 ≤ fullPort.queue.length
    ∧ { livePort with state := .busOff }.state = .busOff ∧ State.reset.vehicle.state = .off := by decide

theorem takesRequests_running : running.takesRequests := ⟨.inl rfl, rfl, rfl, rfl⟩

/-- A response in progress at a departure. -/
def sending (c : FrozenCopy) (n : Nat) (p : PortRecord) : State :=
  { running with
    vehicle := p
    responder := { Responder.initial with state := .sending, departed := true, copy := some c, nextPart := n } }

/-- A single frame waits at a departure. -/
def reoffering (p : PortRecord) : State :=
  { running with
    vehicle := p
    responder := { Responder.initial with waiting := some ⟨frame 0, false⟩, departed := true } }

/-- Part `n` of a response waits at a departure. -/
def partWaiting (c : FrozenCopy) (n : Nat) (p : PortRecord) : State :=
  { sending c n p with
    responder := { (sending c n p).responder with waiting := some ⟨frame 0, false⟩, partWaits := true } }

/-- The last index in use and the first that is not; a field of the staging tables and one that it does not have. -/
theorem witness_SingleFrameReadsAnswerTheirContents :
    running.takesRequests
    ∧ ((2 : Byte) ≠ 0 ∧ (2 : Byte) ≠ 1)
    ∧ ((1 : Byte).toNat < running.working.settings.watchCount ∧ running.watches[1]? = some ⟨.untested, some .gated, 0⟩)
    ∧ ((0 : Byte).toNat < running.working.settings.faultCount ∧ running.faults[0]? = some ⟨.notTested, 0⟩
      ∧ running.retained.rideFlags[0]? = some ⟨false, false⟩)
    ∧ (TableName.ofCode 4 = some .faults ∧ running.staging.readField .faults 0 16 = some 0
      ∧ running.staging.readField .faults 0 17 = none ∧ TableName.ofCode 5 = none)
    ∧ (let s := sending (.signal .initial) 1 livePort
       s.power = .running ∧ s.responder.waiting = none ∧ s.responder.restartPending = false
       ∧ s.responder.state = .sending) :=
  ⟨takesRequests_running, by decide, by decide, by decide, by decide, by decide⟩

theorem witness_MultiFrameReadsFreezeACopy :
    running.takesRequests
    ∧ (State.withMemory running (.active record0) []).retained.slots[0]? = some (.active record0)
    ∧ (State.withMemory running (.stored record0) []).retained.slots[0]? = some (.stored record0)
    ∧ (State.withMemory running (.writing 1) []).retained.slots[0]? = some (.writing 1)
    ∧ (running.retained.slots[31]? = some .empty ∧ (31 : Byte).toNat < 32 ∧ 32 ≤ (32 : Byte).toNat)
    ∧ ((0 : Byte).toNat < running.working.settings.frameCount ∧ running.monitor[0]? = some (.initial (some 1550)))
    ∧ ((0 : Byte).toNat < running.working.settings.signalCount ∧ running.cache[0]? = some .initial)
    ∧ running.working.settings.frameCount ≤ (1 : Byte).toNat
    ∧ running.working.settings.watchCount ≤ (2 : Byte).toNat :=
  ⟨takesRequests_running, by decide, by decide, by decide, by decide, by decide, by decide, by decide, by decide⟩

/-- A record with two freeze frames of six snapshots. -/
theorem witness_ResponsePartsAreEightBytes :
    let x : List Snapshot := List.replicate 6 ⟨0, 0, .neverSeen⟩
    let c : FrozenCopy := .record false { record0 with firstFrame := x, latestFrame := some x }
    x.length ≤ 6 ∧ 14 < c.partCount ∧ 14 < 16 := by decide

/-- A single frame; the last part of a signal and a part of a frame state before the last; a full queue; BUS_OFF. -/
theorem witness_WaitingFramesAreOfferedAgain :
    (let s := reoffering livePort
     s.responder.waiting = some ⟨frame 0, false⟩ ∧ s.responder.departed = true ∧ s.responder.partWaits = false
     ∧ s.vehicle.state = .errorActive ∧ s.vehicle.queue.length < 8)
    ∧ (let s := partWaiting (.signal .initial) 1 livePort
       s.responder.waiting = some ⟨frame 0, false⟩ ∧ s.responder.departed = true ∧ s.responder.partWaits = true
       ∧ s.responder.copy = some (.signal .initial) ∧ FrozenCopy.partCount (.signal .initial) ≤ s.responder.nextPart + 1)
    ∧ (let s := partWaiting (.frameState (.initial none)) 3 livePort
       s.responder.nextPart + 1 < FrozenCopy.partCount (.frameState (.initial none)))
    ∧ 8 ≤ (reoffering fullPort).vehicle.queue.length
    ∧ (reoffering { livePort with state := .busOff }).vehicle.state = .busOff := by decide

/-- The last part of a signal and the last but one of a frame state; and a sound responder whose part waits. -/
theorem witness_ResponsePartsAreOfferedInOrder :
    ((sending (.signal .initial) 1 livePort).responder.copy = some (.signal .initial)
      ∧ (sending (.signal .initial) 1 livePort).responder.state = .sending
      ∧ (sending (.signal .initial) 1 livePort).responder.waiting = none
      ∧ (sending (.signal .initial) 1 livePort).responder.departed = true
      ∧ FrozenCopy.partCount (.signal .initial) ≤ 1 + 1
      ∧ 3 + 1 < FrozenCopy.partCount (.frameState (.initial none))
      ∧ livePort.state = .errorActive ∧ livePort.queue.length < 8 ∧ 8 ≤ fullPort.queue.length)
    ∧ (partWaiting (.signal .initial) 1 livePort).responder.sound
    ∧ ∃ t, exec .waitingFrameReoffer (partWaiting (.signal .initial) 1 livePort) = .next t :=
  ⟨by decide, ⟨fun _ => ⟨_, rfl, by decide⟩, nofun, fun _ => ⟨rfl, rfl⟩⟩, _, rfl⟩

/-- The up step of fault 0 at 127, its greatest value, and 128; and a field that no table has. -/
theorem witness_StagingRequestsEditStagingAlone :
    running.takesRequests ∧ TableName.ofCode 4 = some .faults
    ∧ (∃ t, running.staging.writeField .faults 0 5 127 = .ok t)
    ∧ running.staging.writeField .faults 0 5 128 = .badValue
    ∧ running.staging.writeField .faults 0 17 0 = .noField ∧ TableName.ofCode 5 = none :=
  ⟨takesRequests_running, rfl, ⟨_, rfl⟩, by decide, by decide, rfl⟩

theorem witness_WrittenFieldsReadBack :
    (∀ e ∈ tables.faults, e.snapshots.length = 6) ∧ (∃ u, tables.writeField .faults 0 16 63 = .ok u)
    ∧ ((TableName.faults, 0, 15) : TableName × Nat × Nat) ≠ (.faults, 0, 16) := ⟨by decide, ⟨_, rfl⟩, by decide⟩

theorem witness_AcceptedClearsTakeEffectAtOnce :
    running.takesRequests
    ∧ (((0 : Byte) = 0 ∧ ClearScope.all = .all)
      ∧ ((3 : Byte) = 3 ∧ (4610 : BitVec 16) ≠ 0 ∧ ClearScope.code 4610 = .code (4610 : BitVec 16).toNat))
    ∧ running.stationary = true ∧ (∀ x ∈ running.retained.slots, x.isWriting = false)
    ∧ ClearScope.selects .engine tables [.active record0] [] 4610 = true
    ∧ ClearScope.selects .engine .default [.stored record0] [] 4610 = true
    ∧ ClearScope.selects .engine .default [.writing 4610] [.confirm confirm0] 4610 = true
    ∧ ClearScope.selects .brake tables [.active record0] [] 4610 = false :=
  ⟨takesRequests_running, by decide, by decide, by decide, by decide, by decide, by decide, by decide⟩

theorem witness_AcceptedCommitsInstallStaging :
    running.takesRequests ∧ running.stationary = true ∧ running.band = .normal ∧ running.store.state ≠ .writing
    ∧ running.staging.inconsistency = none ∧ afterRun.takesRequests ∧ afterRun.power = .afterRun :=
  ⟨takesRequests_running, by decide, rfl, by decide, by decide, ⟨.inr rfl, rfl, rfl, rfl⟩, rfl⟩

theorem witness_AcceptedRestartsWaitForTheQueue :
    running.takesRequests ∧ running.stationary = true ∧ running.store.state ≠ .writing :=
  ⟨takesRequests_running, by decide, by decide⟩

/-- A module that is not stationary: its speed signal has never been seen. -/
def moving : State :=
  { running with working := { tables with settings := { tables.settings with speedPresent := true } } }

theorem witness_RefusedRequestsChangeNothingElse :
    running.power = .running
    ∧ (reoffering livePort).responder.waiting.isSome = true
    ∧ ((sending (.signal .initial) 1 livePort).responder.waiting = none
      ∧ (sending (.signal .initial) 1 livePort).responder.state = .sending ∧ ∀ page, Request.commit ≠ .readStatus page)
    ∧ running.takesRequests ∧ moving.takesRequests ∧ moving.stationary = false
    ∧ (clearScope 4 0 = none ∧ clearScope 3 0 = none ∧ (clearScope 2 0).isSome = true)
    ∧ (∃ x ∈ (State.withMemory running (.writing 4610) []).retained.slots, x.isWriting = true)
    ∧ (State.stationary { running with band := .over } = true ∧ { running with band := .over }.band ≠ .normal)
    ∧ ({ running.store with state := .writing }.state = .writing)
    ∧ tables.sound ∧ tables.inconsistency = none
    ∧ Tables.inconsistency { tables with settings := { tables.settings with statusId := 0x7C0 } } = some (.settings, 0)
    ∧ Tables.inconsistency { tables with frames := [{ frame0 with timeout := 11 }] } = some (.frames, 0)
    ∧ Tables.inconsistency { tables with signals := [{ signal0 with frameEntry := 1 }] } = some (.signals, 0)
    ∧ Tables.inconsistency { tables with watches := [level0, { gated1 with linkPresent := true }] } = some (.watches, 0)
    ∧ Tables.inconsistency { tables with watches := [level0, { gated1 with gateWatch := 1 }] } = some (.watches, 1)
    ∧ Tables.inconsistency { tables with faults := [{ fault0 with code := 0 }] } = some (.faults, 0) :=
  ⟨rfl, by decide, ⟨rfl, rfl, nofun⟩, takesRequests_running, ⟨.inl rfl, rfl, rfl, rfl⟩, by decide, by decide,
    ⟨.writing 4610, by decide, rfl⟩, by decide, rfl, tables_sound, by decide, by decide, by decide, by decide, by decide,
    by decide, by decide⟩

theorem witness_RequestFramesDecodeToTheirRequests :
    (∀ code, Request.writeTable 4 11 5 4 ≠ .badRequest code)
    ∧ decodeRequest (Request.frameBytes (.writeTable 4 11 5 4) ++ [0xFF]) = .writeTable 4 11 5 4 := ⟨nofun, by decide⟩

/-- The ends of every band; a band that stays and one that changes, while RUNNING and past the limit of AFTER_RUN; the
ninth and the tenth sample; a module held in each kind of reset. -/
theorem witness_SamplesSetTheBand :
    (¬ (running.power = .starting ∧ running.stage = .held) ∧ nextBand running.band 120 = some .normal
      ∧ nextBand running.band 60 = some .low ∧ nextBand running.band 161 = some .over)
    ∧ ({ afterRun with limitPassed := true }.power ≠ .running ∧ { afterRun.store with state := .writing }.state = .writing)
    ∧ ({ running with sampleCount := 8 }.sampleCount + 1 < 10 ∧ 10 ≤ { running with sampleCount := 9 }.sampleCount + 1)
    ∧ ({ level0 with needsNormal := true }.needsNormal = true ∧ running.view.band = .normal)
    ∧ (State.reset.power = .starting ∧ State.reset.stage = .held ∧ State.reset.resetKind ≠ .serviceRestart
      ∧ 30 ≤ 30 ∧ 29 < 30 ∧ 60 ≤ 60) := by decide

/-- 5.9 V, 3.0 V and 2.9 V; a module held after a SERVICE_RESTART; a reset of another kind and one of the kind
SUPPLY_DIP; a restart that is due, one whose OK frame alone is queued, and none. -/
theorem witness_ResetsLoseVolatileState :
    (¬ (running.power = .starting ∧ running.stage = .held) ∧ 59 < 60 ∧ 30 ≤ 30 ∧ 29 < 30)
    ∧ { State.reset with resetKind := .serviceRestart }.resetKind = .serviceRestart
    ∧ ¬ (State.reset.power = .starting ∧ State.reset.stage = .held ∧ State.reset.resetKind = .supplyDip)
    ∧ { State.reset with resetKind := .supplyDip }.resetKind = .supplyDip
    ∧ (let s : State := { running with responder := { Responder.initial with restartPending := true, restartDue := true } }
       s.responder.restartPending = true ∧ s.responder.restartDue = true)
    ∧ (let s : State :=
         { running with vehicle := { livePort with queue := [⟨frame 0, true⟩] }
                        responder := { Responder.initial with restartPending := true } }
       s.vehicle.state = .errorActive ∧ s.vehicle.queue.length = 1 ∧ s.responder.waiting = none)
    ∧ running.responder.restartPending = false := by decide

/-- At 6.3 V and at 6.2 V; after a SERVICE_RESTART at 6.0 V and at 5.9 V; after key-on in STANDBY. -/
theorem witness_StartupPreparesTheModule :
    (let s : State := { State.reset with battery := 63 }
     s.power = .starting ∧ s.stage = .held ∧ s.keySettled = none ∧ 63 ≤ s.battery
     ∧ s.resetKind ≠ .serviceRestart ∧ { s with battery := 62 }.battery < 63)
    ∧ (∀ v ∈ [59, 60], let s : State := { State.reset with resetKind := .serviceRestart, battery := v }
       s.resetKind = .serviceRestart ∧ (60 ≤ s.battery ∨ s.battery < 60))
    ∧ (let s : State :=
         { waiting with stage := .keyOn, keySettled := some true
                        retained := { running.retained with rideOpen := false } }
       s.power = .starting ∧ s.stage = .keyOn ∧ s.keySettled = some true ∧ s.retained.mark = true
       ∧ s.retained.rideOpen = false) := by decide

theorem witness_SettledKeyOpensAndClosesRides :
    running.keyLine ≠ false
    ∧ (waiting.power = .starting ∧ waiting.stage = .waitKey ∧ waiting.keyLine = true ∧ waiting.retained.rideOpen = true)
    ∧ ({ waiting with keyLine := false }.keyLine = false
      ∧ { running.retained with rideOpen := false }.rideOpen = false)
    ∧ (running.power = .running ∧ { running with keyLine := false }.keyLine = false)
    ∧ (afterRun.power = .afterRun ∧ { afterRun with keyLine := true }.keyLine = true)
    ∧ { waiting with power := .standby, stage := .done }.power = .standby
    ∧ (waiting.crystalRuns = true ∧ { waiting with crystalRuns := false }.crystalRuns = false)
    ∧ (agingList tables [] = [] ∧ agingList tables [⟨true, false⟩] = [4610]) := by decide

/-- Drained; at the limit with nothing in progress, with a write in progress, and with a store write in progress. -/
theorem witness_AfterRunEndsDrainedOrAtItsLimit :
    (afterRun.power = .afterRun ∧ afterRun.reports = [] ∧ afterRun.control.queue = [] ∧ afterRun.vehicle.queue = []
      ∧ afterRun.writeQueue = [] ∧ afterRun.write = none ∧ afterRun.store.state ≠ .writing
      ∧ afterRun.limitPassed = false)
    ∧ (let s : State :=
         { State.withMemory afterRun (.writing 4610) [.confirm confirm0, .heal 4610 20] with write := some ⟨0, none, 0, 5⟩ }
       s.write = some ⟨0, none, 0, 5⟩ ∧ s.writeQueue = .confirm confirm0 :: [.heal 4610 20])
    ∧ { afterRun.store with state := .writing }.state = .writing
    ∧ (∀ c d cs, WriteEntry.age [4610] ≠ .age (c :: d :: cs)) :=
  ⟨by decide, by decide, rfl, nofun⟩

theorem witness_WindowCrystalAndStoreEventsActAlone :
    running.pacer.running = true ∧ { afterRun with limitPassed := true }.limitPassed = true
    ∧ { running.store with state := .writing }.state = .writing := by decide

end Sys2Proof.Tests
end

namespace Sys2Proof.Machine

/-! ## The Frame Path: a received frame up to its lookup (R3, R9, R10, R14) -/

section FramePath

variable (s : State) (p : Port) (r : PortRecord) (f : CanFrame)

/-- A port's new record, and the announcement of its change of state, reach the port and the pipeline alone (R1,
R68). -/
theorem State.changePort_frame : (s.setPort p r).reachesPipelineOnly (s.changePort p r) := by
  rcases s.changePort_cases p r with same | ⟨-, -, announced⟩
  · rw [same]; exact State.reachesPipelineOnly_refl _
  · rw [announced]; exact State.watchEvent_frame _ _

@[simp] theorem State.changePort_power : (s.changePort p r).power = s.power :=
  (congrArg State.power (s.changePort_frame p r)).trans (s.setPort_power p r)

@[simp] theorem State.changePort_degraded : (s.changePort p r).degraded = s.degraded :=
  (congrArg State.degraded (s.changePort_frame p r)).trans (s.setPort_degraded p r)

@[simp] theorem State.changePort_working : (s.changePort p r).working = s.working :=
  (congrArg State.working (s.changePort_frame p r)).trans (s.setPort_working p r)

@[simp] theorem State.changePort_monitor : (s.changePort p r).monitor = s.monitor :=
  (congrArg State.monitor (s.changePort_frame p r)).trans (s.setPort_monitor p r)

@[simp] theorem State.changePort_cache : (s.changePort p r).cache = s.cache :=
  (congrArg State.cache (s.changePort_frame p r)).trans (s.setPort_cache p r)

@[simp] theorem State.changePort_rideClock : (s.changePort p r).retained.rideClock = s.retained.rideClock :=
  (congrArg (·.retained.rideClock) (s.changePort_frame p r)).trans
    (congrArg Retained.rideClock (s.setPort_retained p r))

@[simp] theorem State.changePort_verified : (s.changePort p r).retained.verified = s.retained.verified :=
  (congrArg (·.retained.verified) (s.changePort_frame p r)).trans
    (congrArg Retained.verified (s.setPort_retained p r))

@[simp] theorem State.changePort_now : (s.changePort p r).now = s.now := s.changePort_rideClock p r

@[simp] theorem State.changePort_recordOf (i : Nat) : (s.changePort p r).recordOf i = s.recordOf i := by
  rw [State.recordOf, State.changePort_monitor, State.recordOf]

@[simp] theorem State.changePort_port_opposite :
    (s.changePort p r).port p.opposite = s.port p.opposite :=
  have unmoved : (s.changePort p r).port p.opposite = (s.setPort p r).port p.opposite :=
    (congrArg (·.port p.opposite) (s.changePort_frame p r)).trans (by cases p <;> rfl)
  unmoved.trans (s.setPort_port_opposite p r)

/-- Outside RUNNING a change of a port's state is not announced (R76). -/
theorem State.changePort_of_not_running (h : s.power ≠ .running) : s.changePort p r = s.setPort p r := by
  rcases s.changePort_cases p r with same | ⟨-, running, -⟩
  · exact same
  · exact absurd running h

theorem PortRecord.received_eq_heard (h : r.hears) : r.received = r.heard := by
  simp only [PortRecord.received, PortRecord.withErrors, PortRecord.heard, errorState_live _ _ _ h]

/-- What a reception leaves before the frame is sorted is what the statements call having heard it (R3, R68). -/
theorem State.hasHeard_changePort : s.hasHeard p (s.changePort p (s.port p).heard) := by
  refine ⟨fun same => ?_, fun changed => ?_⟩
  · rw [State.setPort_port_same] at same
    exact s.changePort_same p _ same
  · rw [State.setPort_port_same] at changed
    exact s.changePort_afterEvent p _ changed

theorem exec_frameReceived_of_hears (hf : f.wellFormed = true) (hp : (s.port p).hears) :
    exec (.frameReceived p f) s = .next ((s.changePort p (s.port p).heard).sortFrame p f.received) := by
  have live : (s.port p).live = true := (PortRecord.live_iff _).2 hp
  rw [← PortRecord.received_eq_heard _ hp]
  change execFrameReceived p f s = _
  simp [execFrameReceived, hf, live]

/-- An identifier that is none of the module's own is neither the request identifier nor a clash (R9). -/
theorem Settings.not_own (t : Settings) (ident : Nat) (h : ident ∉ t.ownIds) :
    ident ≠ t.requestId ∧ t.clashes ident = false := by
  simp only [Settings.ownIds, List.mem_cons, List.not_mem_nil, or_false, not_or] at h
  obtain ⟨request, response, status, report⟩ := h
  exact ⟨request, by simp [Settings.clashes, response, status, report]⟩

/-- A frame that the first three steps of R9 leave is looked up. -/
theorem State.sortFrame_of_looksUp (h : s.looksUp p f) : s.sortFrame p f = s.lookedUp p f := by
  obtain ⟨standard, data, path⟩ := h
  rcases path with rfl | foreign
  · simp [State.sortFrame, standard, data]
  · obtain ⟨request, clash⟩ := Settings.not_own _ _ foreign
    simp [State.sortFrame, standard, data, request, clash]

theorem State.lookedUp_of_entry {i : Nat} {e : FrameEntry} (hi : s.working.lookup p f.ident = some i)
    (he : s.working.frames[i]? = some e) : s.lookedUp p f = s.knownFrame p i e f := by
  simp only [State.lookedUp, hi, he]

/-- A known frame is heard and then taken by its entry (R3, R9, R10, R12). -/
theorem exec_frameReceived_of_entry {i : Nat} {e : FrameEntry} (hf : f.wellFormed = true)
    (hp : (s.port p).hears) (hl : s.looksUp p f) (hi : s.working.lookup p f.ident = some i)
    (he : s.working.frames[i]? = some e) :
    exec (.frameReceived p f) s
      = .next ((s.changePort p (s.port p).heard).knownFrame p i e f.received) := by
  have sorted : (s.changePort p (s.port p).heard).looksUp p f.received := by
    rw [State.looksUp, State.changePort_working]; exact hl
  rw [exec_frameReceived_of_hears s p f hf hp, State.sortFrame_of_looksUp _ _ _ sorted,
    State.lookedUp_of_entry (e := e) _ _ _ (by rw [State.changePort_working]; exact hi)
      (by rw [State.changePort_working]; exact he)]

/-- A length code above 8 is received as 8, and the data bytes are those of the frame (R3). -/
@[simp] theorem received_data : f.received.data = f.data := rfl

/-- The port that a frame is routed to takes or drops it as R14 says. -/
theorem State.forward_received : s.forward p f.received = s.setPort p ((s.port p).routed f) := by
  rcases s.forward_cases p f.received with ⟨room, joined⟩ | ⟨full, dropped⟩
  · rw [joined, PortRecord.routed, if_pos ((PortRecord.hasRoom_iff _).1 room)]; rfl
  · have noRoom := mt (PortRecord.hasRoom_iff _).2 (ne_true_of_eq_false full)
    rw [dropped, PortRecord.routed, if_neg noRoom]; rfl

end FramePath

/-! ## An arrival of an entry (R26, R36, R42, R45, R49, R56) -/

section Arrivals

variable (t : Tables) (i : Nat) (data : List Byte) (now : Nat)

/-- The not-available raw value makes a signal UNAVAILABLE and keeps its value (R45). -/
theorem CacheEntry.written_unavailable (c : CacheEntry) (g : SignalEntry) (present : g.naPresent = true)
    (na : g.raw data = g.naRaw) :
    c.written g data now = { c with status := .unavailable, update := some now } := by
  simp [CacheEntry.written, SignalEntry.unavailable, present, na]

theorem CacheEntry.written_valid (c : CacheEntry) (g : SignalEntry)
    (available : g.naPresent = false ∨ g.raw data ≠ g.naRaw) :
    c.written g data now = ⟨g.scale (g.raw data), .valid, some now⟩ := by
  have h : g.unavailable (g.raw data) = false := by
    rcases available with absent | other
    · simp [SignalEntry.unavailable, absent]
    · simp [SignalEntry.unavailable, other]
  simp [CacheEntry.written, h]

theorem writeSignals_length (cache : List CacheEntry) :
    (writeSignals t i data now cache).length = cache.length :=
  mapFrom_length _ _ _

theorem writeSignals_getElem?_drawn {cache : List CacheEntry} {k : Nat} {c : CacheEntry} {g : SignalEntry}
    (hc : cache[k]? = some c) (hg : entryAt t.settings.signalCount t.signals k = some g)
    (drawn : g.frameEntry = i) :
    (writeSignals t i data now cache)[k]? = some (c.written g data now) := by
  simp [writeSignals, mapFrom_getElem?, hc, hg, drawn]

theorem writeSignals_getElem?_not_drawn {cache : List CacheEntry} {k : Nat} {c : CacheEntry}
    (hc : cache[k]? = some c) (other : t.drawnFrom i k = false) :
    (writeSignals t i data now cache)[k]? = some c := by
  cases hg : entryAt t.settings.signalCount t.signals k with
  | none => simp [writeSignals, mapFrom_getElem?, hc, hg]
  | some g =>
    have notDrawn : g.frameEntry ≠ i := by simpa [Tables.drawnFrom, hg] using other
    simp [writeSignals, mapFrom_getElem?, hc, hg, notDrawn]

theorem setsVerified_iff (cache : List CacheEntry) :
    setsVerified t i cache = true ↔ t.settings.speedPresent = true
      ∧ t.drawnFrom i t.settings.speedSignal = true
      ∧ ∃ c, cache[t.settings.speedSignal]? = some c ∧ c.status = .valid
        ∧ (t.settings.verifySpeed : Int) ≤ c.value := by
  cases h : cache[t.settings.speedSignal]? <;> simp [setsVerified, h, and_assoc]

/-- The Signal Cache after an arrival with its verdict: a fresh one alone writes (R42, R49). -/
def State.cacheAfter (s : State) (i : Nat) (v : Verdict) (data : List Byte) : List CacheEntry :=
  if v = .fresh then writeSignals s.working i data s.now s.cache else s.cache

/-- The verified flag after an arrival with its verdict (R56). -/
def State.verifiedAfter (s : State) (i : Nat) (v : Verdict) (data : List Byte) : Bool :=
  s.retained.verified || (decide (v = .fresh) && setsVerified s.working i (s.cacheAfter i v data))

variable (s : State) (v : Verdict)

theorem State.cacheAfter_not_fresh (h : v ≠ .fresh) : s.cacheAfter i v data = s.cache :=
  if_neg h

theorem State.cacheAfter_length : (s.cacheAfter i v data).length = s.cache.length := by
  unfold State.cacheAfter
  split
  · exact writeSignals_length _ _ _ _ _
  · rfl

/-- A fresh arrival writes the signals drawn from its entry (R42, R45, R49). -/
theorem State.cacheAfter_drawn {k : Nat} {c : CacheEntry} {g : SignalEntry} (fresh : v = .fresh)
    (hc : s.cache[k]? = some c) (hg : entryAt s.working.settings.signalCount s.working.signals k = some g)
    (drawn : g.frameEntry = i) :
    (s.cacheAfter i v data)[k]? = some (c.written g data s.now) := by
  subst fresh
  exact writeSignals_getElem?_drawn _ _ _ _ hc hg drawn

/-- An arrival that is not fresh, and a signal of another entry, write nothing (R42). -/
theorem State.cacheAfter_unwritten {k : Nat} {c : CacheEntry} (hc : s.cache[k]? = some c)
    (h : v ≠ .fresh ∨ s.working.drawnFrom i k = false) : (s.cacheAfter i v data)[k]? = some c := by
  by_cases fresh : v = .fresh
  · subst fresh
    exact writeSignals_getElem?_not_drawn _ _ _ _ hc (h.resolve_left (absurd rfl))
  · rw [State.cacheAfter_not_fresh _ _ _ _ fresh, hc]

theorem State.verifiedAfter_iff :
    s.verifiedAfter i v data = true ↔ s.retained.verified = true
      ∨ (v = .fresh ∧ s.working.settings.speedPresent = true
        ∧ s.working.drawnFrom i s.working.settings.speedSignal = true
        ∧ ∃ c, (s.cacheAfter i v data)[s.working.settings.speedSignal]? = some c ∧ c.status = .valid
          ∧ (s.working.settings.verifySpeed : Int) ≤ c.value) := by
  simp only [State.verifiedAfter, Bool.or_eq_true, Bool.and_eq_true, decide_eq_true_iff, setsVerified_iff]

/-- The state after an arrival's record, signals and verified flag, before its watches (R26, R49, R56). -/
def State.arrivalWritten (s : State) (i : Nat) (e : FrameEntry) (j : Judgement) (data : List Byte) : State :=
  { s with
    monitor := s.monitor.set i ((s.recordOf i).afterArrival e s.degraded s.now j data)
    cache := s.cacheAfter i j.verdict data
    retained := { s.retained with verified := s.verifiedAfter i j.verdict data } }

/-- What an arrival hands to the Watch Evaluator (R36). -/
def State.arrivalNotice (s : State) (i : Nat) (e : FrameEntry) (j : Judgement) (data : List Byte) :
    ArrivalNotice :=
  ⟨i, decide (j.verdict = .fresh), j.defect, ((s.recordOf i).afterArrival e s.degraded s.now j data).state, data⟩

variable (e : FrameEntry) (j : Judgement)

/-- An arrival is its writes and then one event over the watches (R36, R64 to R67). -/
theorem State.arrival_eq :
    s.arrival i e j data = (s.arrivalWritten i e j data).watchEvent
      (reachArrival (s.arrivalWritten i e j data).view (s.working.drawnFrom i) (s.arrivalNotice i e j data)) := by
  obtain ⟨verdict, defect, lost⟩ := j
  cases verdict <;> rfl

theorem State.arrival_takesEvent :
    (s.arrivalWritten i e j data).takesEvent
      (reachArrival (s.arrivalWritten i e j data).view (s.working.drawnFrom i) (s.arrivalNotice i e j data))
      (s.arrival i e j data) := by
  rw [State.arrival_eq]
  exact State.watchEvent_takesEvent _ _

@[simp] theorem State.arrival_port (p : Port) : (s.arrival i e j data).port p = s.port p := by
  rw [State.arrival_eq]; cases p <;> rfl

end Arrivals

/-! ## Routing a known frame (R12) -/

section Routing

variable (s : State) (p : Port) (i : Nat) (e : FrameEntry) (f : CanFrame)

theorem Route.forwards_none_iff (r : Route) : r.forwards none = true ↔ r = .forward ∨ r = .forwardIntact := by
  cases r <;> simp [Route.forwards]

theorem Route.forwards_some_iff (r : Route) (v : Verdict) :
    r.forwards (some v) = true ↔ r = .forward ∨ (r = .forwardIntact ∧ v = .fresh) := by
  cases r <;> cases v <;> simp [Route.forwards]

/-- Outside RUNNING the route alone decides (R12). -/
theorem State.knownFrame_of_not_running (h : s.power ≠ .running) :
    s.knownFrame p i e f.received = if e.route = .forward ∨ e.route = .forwardIntact
      then s.setPort p.opposite ((s.port p.opposite).routed f) else s := by
  have off : s.isRunning = false := by simpa [State.isRunning] using h
  simp only [State.knownFrame, off, Route.forwards_none_iff, State.forward_received, Bool.false_eq_true, if_false]

/-- While RUNNING a known frame is an arrival, and its route and verdict decide the forwarding (R12, R22). -/
theorem State.knownFrame_of_running (h : s.power = .running) :
    s.knownFrame p i e f.received =
      (let j := judge e (s.recordOf i) f.data
       let w := s.arrival i e j f.data
       if e.route = .forward ∨ (e.route = .forwardIntact ∧ j.verdict = .fresh)
         then w.setPort p.opposite ((s.port p.opposite).routed f) else w) := by
  have on : s.isRunning = true := by simp [State.isRunning, h]
  simp only [State.knownFrame, on, Route.forwards_some_iff, State.forward_received, State.arrival_port, if_true,
    received_data]

end Routing

/-! ## Known frames (R12, R14) -/

section KnownFrames

variable (s : State) (p : Port) (r : PortRecord) (i : Nat) (e : FrameEntry) (j : Judgement) (data : List Byte)

@[simp] theorem State.changePort_cacheAfter (v : Verdict) :
    (s.changePort p r).cacheAfter i v data = s.cacheAfter i v data := by
  simp [State.cacheAfter]

@[simp] theorem State.changePort_verifiedAfter (v : Verdict) :
    (s.changePort p r).verifiedAfter i v data = s.verifiedAfter i v data := by
  simp [State.verifiedAfter]

/-- The announcement of a port's change of state moves nothing that an arrival's writes read (log entry 10). -/
theorem State.changePort_arrivalWritten :
    (s.changePort p r).arrivalWritten i e j data = { s.changePort p r with
      monitor := s.monitor.set i ((s.recordOf i).afterArrival e s.degraded s.now j data)
      cache := s.cacheAfter i j.verdict data
      retained := { (s.changePort p r).retained with verified := s.verifiedAfter i j.verdict data } } := by
  simp [State.arrivalWritten]

theorem State.changePort_arrivalNotice :
    (s.changePort p r).arrivalNotice i e j data = s.arrivalNotice i e j data := by
  simp [State.arrivalNotice]

/-- The event of an arrival that follows the announcement of a port's change of state, read from the state before
both. -/
theorem State.changePort_arrival_takesEvent :
    (let u : State := { s.changePort p r with
      monitor := s.monitor.set i ((s.recordOf i).afterArrival e s.degraded s.now j data)
      cache := s.cacheAfter i j.verdict data
      retained := { (s.changePort p r).retained with verified := s.verifiedAfter i j.verdict data } }
     u.takesEvent (reachArrival u.view (s.working.drawnFrom i) (s.arrivalNotice i e j data))
      ((s.changePort p r).arrival i e j data)) := by
  have event := (s.changePort p r).arrival_takesEvent i data e j
  rw [State.changePort_arrivalWritten, State.changePort_arrivalNotice, State.changePort_working] at event
  exact event

end KnownFrames

/-- Settles O11: the reception is heard, then the frame is an arrival of its entry or, in AFTER_RUN, only routed; each
clause is the law of that part. -/
theorem knownFramesAreMonitoredAndRouted : Obligations.KnownFramesAreMonitoredAndRouted := by
  intro p f s i e wellFormed hears looksUp lookup entry
  have taken := exec_frameReceived_of_entry s p f wellFormed hears looksUp lookup entry
  refine ⟨fun afterRun => ?_, fun running => ?_⟩
  · have notRunning : s.power ≠ .running := by simp [afterRun]
    rw [taken, State.changePort_of_not_running _ _ _ notRunning,
      State.knownFrame_of_not_running _ _ _ _ _ (by simpa using notRunning), State.setPort_port_opposite]
    cases e.route <;> simp
  · have runs : (s.changePort p (s.port p).heard).power = .running := by simpa using running
    refine ⟨_, _, _, _, s.hasHeard_changePort p, s.cacheAfter_length i f.data _,
      fun k c held => ⟨fun g fresh named drawn => ?_, s.cacheAfter_unwritten i f.data _ held⟩,
      s.verifiedAfter_iff i f.data _, s.changePort_arrival_takesEvent p _ i e _ f.data, ?_⟩
    · have written := s.cacheAfter_drawn i f.data _ fresh held named drawn
      exact ⟨fun present na => written.trans
          (congrArg some (CacheEntry.written_unavailable _ _ c g present na)),
        fun available => written.trans (congrArg some (CacheEntry.written_valid _ _ c g available))⟩
    · rw [taken, State.knownFrame_of_running _ _ _ _ _ runs]
      simp only [State.changePort_recordOf, State.changePort_port_opposite]

end Sys2Proof.Machine

namespace Sys2Proof.Machine

/-! ## The raw number of a signal (R43, R44) -/

section RawNumber

theorem byteAt_lt (data : List Byte) (i : Nat) : byteAt data i < 256 := (data.getD i 0).isLt

variable (e : SignalEntry) (data : List Byte)

/-- The unsigned raw number fits the width of its extraction (R43). -/
theorem SignalEntry.rawUnsigned_lt : e.rawUnsigned data < 2 ^ e.rawWidth := by
  have first := byteAt_lt data e.bytePos
  have second := byteAt_lt data (e.bytePos + 1)
  unfold SignalEntry.rawUnsigned SignalEntry.rawWidth
  cases e.extraction with
  | bits => exact Nat.mod_lt _ (Nat.two_pow_pos _)
  | byte => exact first
  | wordBE | wordLE => dsimp only; omega

theorem SignalEntry.rawWidth_pos (width : 1 ≤ e.width) : 1 ≤ e.rawWidth := by
  unfold SignalEntry.rawWidth
  cases e.extraction with
  | bits => exact width
  | byte | wordBE | wordLE => simp

theorem SignalEntry.rawWidth_le (width : e.width ≤ 8) : e.rawWidth ≤ 16 := by
  unfold SignalEntry.rawWidth
  cases e.extraction with
  | bits => dsimp only; omega
  | byte | wordBE | wordLE => simp

theorem SignalEntry.raw_of_signBit (signed : e.signed = true)
    (bit : 2 ^ (e.rawWidth - 1) ≤ e.rawUnsigned data) :
    e.raw data = (e.rawUnsigned data : Int) - 2 ^ e.rawWidth := by
  simp [SignalEntry.raw, signed, bit]

theorem SignalEntry.raw_of_lt (clear : e.rawUnsigned data < 2 ^ (e.rawWidth - 1)) :
    e.raw data = e.rawUnsigned data := by
  simp [SignalEntry.raw, clear]

theorem SignalEntry.raw_of_unsigned (unsigned : e.signed = false) : e.raw data = e.rawUnsigned data := by
  simp [SignalEntry.raw, unsigned]

/-- The raw range of an unsigned entry (R44). -/
theorem SignalEntry.raw_range_of_unsigned (unsigned : e.signed = false) :
    0 ≤ e.raw data ∧ e.raw data ≤ 2 ^ e.rawWidth - 1 := by
  have fits : (e.rawUnsigned data : Int) < 2 ^ e.rawWidth := mod_cast e.rawUnsigned_lt data
  rw [e.raw_of_unsigned data unsigned]
  omega

/-- The raw range of a signed entry (R44): subtracting the whole range moves its upper half below zero. -/
theorem SignalEntry.raw_range_of_signed (width : 1 ≤ e.width) (signed : e.signed = true) :
    -(2 ^ (e.rawWidth - 1) : Int) ≤ e.raw data ∧ e.raw data ≤ 2 ^ (e.rawWidth - 1) - 1 := by
  have fits : (e.rawUnsigned data : Int) < 2 ^ e.rawWidth := mod_cast e.rawUnsigned_lt data
  have halves : (2 * 2 ^ (e.rawWidth - 1) : Int) = 2 ^ e.rawWidth :=
    mul_pow_sub_one (Nat.one_le_iff_ne_zero.mp (e.rawWidth_pos width)) 2
  rcases Nat.lt_or_ge (e.rawUnsigned data) (2 ^ (e.rawWidth - 1)) with clear | bit
  · have below : (e.rawUnsigned data : Int) < 2 ^ (e.rawWidth - 1) := mod_cast clear
    rw [e.raw_of_lt data clear]
    omega
  · have above : (2 ^ (e.rawWidth - 1) : Int) ≤ e.rawUnsigned data := mod_cast bit
    rw [e.raw_of_signBit data signed bit]
    omega

/-- A signed BITS field of width 1 reads 0 or -1 (R44). -/
theorem SignalEntry.raw_of_one_signed_bit (bits : e.extraction = .bits) (width : e.width = 1)
    (signed : e.signed = true) : e.raw data = 0 ∨ e.raw data = -1 := by
  have one : e.rawWidth = 1 := by simp [SignalEntry.rawWidth, bits, width]
  have range := e.raw_range_of_signed data width.ge signed
  rw [one] at range
  omega

/-- The raw range across all entries (R44). -/
theorem SignalEntry.raw_range (width : 1 ≤ e.width) (widest : e.width ≤ 8) :
    -32768 ≤ e.raw data ∧ e.raw data ≤ 65535 := by
  have narrow := e.rawWidth_le widest
  cases signed : e.signed with
  | false =>
    have whole : (2 : Int) ^ e.rawWidth ≤ 2 ^ 16 := pow_le_pow_right₀ (by decide) narrow
    have range := e.raw_range_of_unsigned data signed
    omega
  | true =>
    have half : (2 : Int) ^ (e.rawWidth - 1) ≤ 2 ^ 15 := pow_le_pow_right₀ (by decide) (by omega)
    have range := e.raw_range_of_signed data width signed
    omega

end RawNumber

/-- Settles O16: the three cases of the sign and the ranges that follow from the width of the unsigned raw number. -/
theorem rawNumbersLieInTheirRange : Obligations.RawNumbersLieInTheirRange := by
  intro e data width widest
  exact ⟨e.raw_of_signBit data, fun _ => e.raw_of_lt data, e.raw_of_unsigned data, e.raw_range_of_unsigned data,
    e.raw_range_of_signed data width, e.raw_of_one_signed_bit data, e.raw_range data width widest⟩

/-! ## Scaling (R46, R47) -/

section Scaling

/-- The quotient q of R46: the product divided by 2 to the power of the shift, rounded towards minus infinity. -/
def SignalEntry.quotient (e : SignalEntry) (r : Int) : Int := (r * e.gain).fdiv (2 ^ e.shift)

variable (e : SignalEntry) (r : Int)

theorem SignalEntry.scale_eq : e.scale r = max valueMin (min valueMax (e.quotient r + e.offset)) := rfl

/-- The product lies within the signed 32-bit range (R46): its magnitude is at most 65535 × 32768. -/
theorem SignalEntry.product_range (rawLow : -32768 ≤ r) (rawHigh : r ≤ 65535)
    (gainLow : -32768 ≤ e.gain) (gainHigh : e.gain ≤ 32767) :
    -2147450880 ≤ r * e.gain ∧ r * e.gain ≤ 2147450880 := by
  have raw : |r| ≤ 65535 := abs_le.mpr ⟨by omega, rawHigh⟩
  have gain : |e.gain| ≤ 32768 := abs_le.mpr ⟨gainLow, by omega⟩
  apply abs_le.mp
  calc |r * e.gain| = |r| * |e.gain| := abs_mul r e.gain
    _ ≤ 65535 * 32768 := mul_le_mul raw gain (abs_nonneg _) (by decide)

/-- The quotient is the greatest whole number not greater than the exact one (R46). -/
theorem SignalEntry.quotient_is_floor :
    e.quotient r * 2 ^ e.shift ≤ r * e.gain ∧ r * e.gain < (e.quotient r + 1) * 2 ^ e.shift := by
  have divisor : (0 : Int) < 2 ^ e.shift := pow_pos (by decide) _
  have floor : e.quotient r = r * e.gain / 2 ^ e.shift := Int.fdiv_eq_ediv_of_nonneg _ divisor.le
  rw [floor]
  exact ⟨Int.ediv_mul_le _ divisor.ne', Int.lt_ediv_add_one_mul_self _ divisor⟩

theorem SignalEntry.quotient_of_no_shift (shift : e.shift = 0) : e.quotient r = r * e.gain := by
  simp [SignalEntry.quotient, shift]

theorem SignalEntry.quotient_of_no_gain (gain : e.gain = 0) : e.quotient r = 0 := by
  simp [SignalEntry.quotient, gain]

theorem SignalEntry.scale_of_above (above : 2147483647 < e.quotient r + e.offset) : e.scale r = 2147483647 := by
  rw [e.scale_eq, valueMin, valueMax]
  omega

theorem SignalEntry.scale_of_below (below : e.quotient r + e.offset < -2147483648) :
    e.scale r = -2147483648 := by
  rw [e.scale_eq, valueMin, valueMax]
  omega

theorem SignalEntry.scale_of_within (low : -2147483648 ≤ e.quotient r + e.offset)
    (high : e.quotient r + e.offset ≤ 2147483647) : e.scale r = e.quotient r + e.offset := by
  rw [e.scale_eq, valueMin, valueMax]
  omega

/-- A gain of 0 leaves the offset (R46), which its own range keeps from saturating. -/
theorem SignalEntry.scale_of_no_gain (gain : e.gain = 0) (low : -8388608 ≤ e.offset) (high : e.offset ≤ 8388607) :
    e.scale r = e.offset := by
  have zero := e.quotient_of_no_gain r gain
  rw [e.scale_of_within r (by omega) (by omega), zero, zero_add]

end Scaling

/-- Settles O17: the whole number in question is the quotient of R46. -/
theorem scalingRoundsTowardsMinusInfinity : Obligations.ScalingRoundsTowardsMinusInfinity := by
  intro e r rawLow rawHigh gainLow gainHigh _
  obtain ⟨productLow, productHigh⟩ := e.product_range r rawLow rawHigh gainLow gainHigh
  obtain ⟨floorLow, floorHigh⟩ := e.quotient_is_floor r
  exact ⟨e.quotient r, productLow, productHigh, floorLow, floorHigh, e.quotient_of_no_shift r,
    e.quotient_of_no_gain r, e.scale_of_no_gain r, e.scale_of_above r, e.scale_of_below r, e.scale_of_within r⟩

end Sys2Proof.Machine

namespace Sys2Proof.Machine

/-! ## A sample of a fault (R82 to R85) -/

section Samples

variable (e : FaultEntry) (f : FaultState)

/-- NOT_TESTED, PASSED and PENDING: the states from which a FAIL at the threshold confirms (R83, R86). -/
def DebounceState.unconfirmed (d : DebounceState) : Prop := d = .notTested ∨ d = .passed ∨ d = .pending

theorem failSample_of_unconfirmed (h : f.state.unconfirmed) :
    failSample e f = if e.failCounter f.counter = e.threshold
      then (⟨.active, e.failCounter f.counter⟩, .confirmation)
      else (⟨.pending, e.failCounter f.counter⟩, .nothing) := by
  obtain ⟨state, c⟩ := f
  obtain rfl | rfl | rfl : state.unconfirmed := h <;> rfl

theorem failSample_of_active (h : f.state = .active) :
    failSample e f = (⟨.active, e.failCounter f.counter⟩, .nothing) := by
  simp [failSample, h]

theorem failSample_of_healing (h : f.state = .healing) :
    failSample e f = if e.failCounter f.counter = e.threshold
      then (⟨.active, e.failCounter f.counter⟩, .nothing)
      else (⟨.healing, e.failCounter f.counter⟩, .nothing) := by
  simp [failSample, h]

theorem passSample_of_unconfirmed (h : f.state.unconfirmed) :
    passSample e f = if e.passCounter f.counter = 0
      then (⟨.passed, e.passCounter f.counter⟩, .nothing)
      else (⟨.pending, e.passCounter f.counter⟩, .nothing) := by
  obtain ⟨state, c⟩ := f
  obtain rfl | rfl | rfl : state.unconfirmed := h <;> rfl

theorem passSample_of_confirmed (h : f.state = .active ∨ f.state = .healing) :
    passSample e f = if e.passCounter f.counter = 0
      then (⟨.passed, e.passCounter f.counter⟩, .heal)
      else (⟨.healing, e.passCounter f.counter⟩, .nothing) := by
  obtain ⟨state, c⟩ := f
  obtain rfl | rfl : state = .active ∨ state = .healing := h <;> rfl

theorem DebounceState.cases_of_confirm (d : DebounceState) : d.unconfirmed ∨ d = .active ∨ d = .healing := by
  unfold DebounceState.unconfirmed
  cases d <;> simp

@[simp] theorem sampleFault_fail (verified : Bool) : sampleFault e verified true f = failSample e f := rfl

/-- A PASS is taken, unless a LATCHED fault in ACTIVE waits for a verified ride (R84, R85). -/
theorem sampleFault_pass_cases (verified : Bool) :
    (f.state = .active ∧ sampleFault e verified false f = (f, .nothing))
    ∨ sampleFault e verified false f = passSample e f := by
  unfold sampleFault
  by_cases waits : (e.cls == .latched && f.state == .active && !verified) = true
  · have active : f.state = .active := by simp only [Bool.and_eq_true, beq_iff_eq] at waits; exact waits.1.2
    exact .inl ⟨active, by simp only [waits, Bool.false_eq_true, if_false, if_true]⟩
  · exact .inr (by simp only [waits, Bool.false_eq_true, if_false])

/-! ### The counter -/

theorem FaultEntry.failCounter_le (c : Nat) : e.failCounter c ≤ e.threshold := Nat.min_le_left _ _

/-- A FAIL never leaves the counter at 0 (R83). -/
theorem FaultEntry.failCounter_pos (range : e.inRange) (c : Nat) : 1 ≤ e.failCounter c := by
  obtain ⟨threshold, up, -⟩ := range
  unfold FaultEntry.failCounter
  omega

@[simp] theorem FaultEntry.failCounter_threshold : e.failCounter e.threshold = e.threshold :=
  Nat.min_eq_left (Nat.le_add_right _ _)

theorem FaultEntry.failCounter_of_large_step (large : e.threshold ≤ e.upStep) (c : Nat) :
    e.failCounter c = e.threshold :=
  Nat.min_eq_left (large.trans (Nat.le_add_left _ _))

/-- A PASS leaves a counter of at most the threshold below it (R84). -/
theorem FaultEntry.passCounter_lt (range : e.inRange) {c : Nat} (reached : c ≤ e.threshold) :
    e.passCounter c < e.threshold := by
  obtain ⟨threshold, -, down⟩ := range
  unfold FaultEntry.passCounter
  split <;> omega

theorem failSample_counter : (failSample e f).1.counter = e.failCounter f.counter := by
  obtain h | h | h := f.state.cases_of_confirm
  · rw [failSample_of_unconfirmed e f h]; split <;> rfl
  · rw [failSample_of_active e f h]
  · rw [failSample_of_healing e f h]; split <;> rfl

/-- A FAIL confirms or hands on nothing: it never heals (R83, R89). -/
theorem failSample_outcome_cases : (failSample e f).2 = .confirmation ∨ (failSample e f).2 = .nothing := by
  obtain h | h | h := f.state.cases_of_confirm
  · rw [failSample_of_unconfirmed e f h]; split <;> simp
  · rw [failSample_of_active e f h]; exact .inr rfl
  · rw [failSample_of_healing e f h]; split <;> exact .inr rfl

/-! ### Agreement of counter and state (R81) -/

variable {e f} {c : Nat}

@[simp] theorem FaultState.agreesWith_notTested : FaultState.agreesWith ⟨.notTested, c⟩ e ↔ c = 0 := Iff.rfl

@[simp] theorem FaultState.agreesWith_passed : FaultState.agreesWith ⟨.passed, c⟩ e ↔ c = 0 := Iff.rfl

@[simp] theorem FaultState.agreesWith_pending :
    FaultState.agreesWith ⟨.pending, c⟩ e ↔ 1 ≤ c ∧ c < e.threshold := Iff.rfl

@[simp] theorem FaultState.agreesWith_healing :
    FaultState.agreesWith ⟨.healing, c⟩ e ↔ 1 ≤ c ∧ c < e.threshold := Iff.rfl

@[simp] theorem FaultState.agreesWith_active :
    FaultState.agreesWith ⟨.active, c⟩ e ↔ c = e.threshold := Iff.rfl

theorem FaultState.agreesWith.counter_of_active (agrees : f.agreesWith e) (active : f.state = .active) :
    f.counter = e.threshold := by
  obtain ⟨state, c⟩ := f
  cases active
  exact FaultState.agreesWith_active.1 agrees

theorem FaultState.agreesWith.counter_le (agrees : f.agreesWith e) : f.counter ≤ e.threshold := by
  obtain ⟨state, c⟩ := f
  cases state with
  | notTested => exact (FaultState.agreesWith_notTested.1 agrees).trans_le (Nat.zero_le _)
  | passed => exact (FaultState.agreesWith_passed.1 agrees).trans_le (Nat.zero_le _)
  | pending => exact (FaultState.agreesWith_pending.1 agrees).2.le
  | healing => exact (FaultState.agreesWith_healing.1 agrees).2.le
  | active => exact (FaultState.agreesWith_active.1 agrees).le

/-- A FAIL leaves an ACTIVE fault as it is: its counter is at the threshold already (R83). -/
theorem FaultState.agreesWith.failSample_active (agrees : f.agreesWith e) (active : f.state = .active) :
    failSample e f = (f, .nothing) := by
  rw [failSample_of_active e f active, agrees.counter_of_active active, e.failCounter_threshold,
    ← agrees.counter_of_active active, ← active]

theorem failSample_agrees (range : e.inRange) (agrees : f.agreesWith e) :
    (failSample e f).1.agreesWith e := by
  have positive := e.failCounter_pos range f.counter
  have bounded := e.failCounter_le f.counter
  obtain h | h | h := f.state.cases_of_confirm
  · rw [failSample_of_unconfirmed e f h]
    split
    · next reached => exact FaultState.agreesWith_active.2 reached
    · next below => exact FaultState.agreesWith_pending.2 ⟨positive, Nat.lt_of_le_of_ne bounded below⟩
  · rwa [agrees.failSample_active h]
  · rw [failSample_of_healing e f h]
    split
    · next reached => exact FaultState.agreesWith_active.2 reached
    · next below => exact FaultState.agreesWith_healing.2 ⟨positive, Nat.lt_of_le_of_ne bounded below⟩

theorem passSample_agrees (range : e.inRange) (agrees : f.agreesWith e) :
    (passSample e f).1.agreesWith e := by
  have below := e.passCounter_lt range agrees.counter_le
  obtain h | h := f.state.cases_of_confirm
  · rw [passSample_of_unconfirmed e f h]
    split
    · next zero => exact FaultState.agreesWith_passed.2 zero
    · next positive => exact FaultState.agreesWith_pending.2 ⟨Nat.pos_of_ne_zero positive, below⟩
  · rw [passSample_of_confirmed e f h]
    split
    · next zero => exact FaultState.agreesWith_passed.2 zero
    · next positive => exact FaultState.agreesWith_healing.2 ⟨Nat.pos_of_ne_zero positive, below⟩

/-- Every sample leaves a fault whose counter agrees with its state (R81). -/
theorem sampleFault_agrees (range : e.inRange) (agrees : f.agreesWith e) (verified fail : Bool) :
    (sampleFault e verified fail f).1.agreesWith e := by
  cases fail with
  | true => exact failSample_agrees range agrees
  | false =>
    obtain ⟨-, ignored⟩ | taken := sampleFault_pass_cases e f verified
    · rwa [ignored]
    · rw [taken]; exact passSample_agrees range agrees

end Samples

section HandedOn

@[simp] theorem RideFlags.afterSample_confirmation (r : RideFlags) :
    r.afterSample .confirmation = ⟨true, true⟩ := by
  simp [RideFlags.afterSample]

@[simp] theorem RideFlags.afterSample_nothing (r : RideFlags) :
    r.afterSample .nothing = { r with tested := true } := by
  simp [RideFlags.afterSample]

variable (x : SampleContext) (d : Debounced) (i : Nat) (fail : Bool)

/-- A sample that reaches a fault (R82, R86, R88). -/
theorem takeSample_of_reached {e : FaultEntry} {f : FaultState}
    (entry : entryAt x.tables.settings.faultCount x.tables.faults i = some e) (state : d.faults[i]? = some f) :
    takeSample x d (i, fail) =
      { faults := d.faults.set i (sampleFault e x.verified fail f).1
        flags := d.flags.modify i (·.afterSample (sampleFault e x.verified fail f).2)
        handed := d.handed ++ e.handOn x.cache x.stamp (sampleFault e x.verified fail f).2 } := by
  simp only [takeSample, entry, state]

/-- A sample reaches a fault, or changes no fault (R82). -/
theorem takeSample_faults_cases :
    (takeSample x d (i, fail)).faults = d.faults
    ∨ ∃ e f, entryAt x.tables.settings.faultCount x.tables.faults i = some e ∧ d.faults[i]? = some f
      ∧ (takeSample x d (i, fail)).faults = d.faults.set i (sampleFault e x.verified fail f).1 := by
  unfold takeSample
  split
  · next e f entry state => exact .inr ⟨e, f, entry, state, rfl⟩
  · exact .inl rfl

theorem takeSnapshot_of_cached {cache : List CacheEntry} {n : Nat} {c : CacheEntry} (cached : cache[n]? = some c) :
    takeSnapshot cache n = ⟨n, c.value, c.status⟩ := by
  simp only [takeSnapshot, cached]

@[simp] theorem FaultEntry.capture_length (e : FaultEntry) (cache : List CacheEntry) :
    (e.capture cache).length = e.snapshotList.length := List.length_map _

theorem FaultEntry.capture_getElem? (e : FaultEntry) {cache : List CacheEntry} {k n : Nat} {c : CacheEntry}
    (listed : e.snapshotList[k]? = some n) (cached : cache[n]? = some c) :
    (e.capture cache)[k]? = some ⟨n, c.value, c.status⟩ := by
  simp [FaultEntry.capture, listed, takeSnapshot_of_cached cached]

end HandedOn

/-- Settles O21: each clause is the equation of `failSample` for the old state, and what its outcome hands on. -/
theorem failSamplesRaiseTheCounter : Obligations.FailSamplesRaiseTheCounter := by
  refine ⟨fun e verified f range agrees => ?_, fun x d i e f entry state => ?_⟩
  · refine ⟨failSample_counter e f, e.failCounter_pos range f.counter,
      fun unconfirmed => ⟨fun (reached : e.failCounter f.counter = e.threshold) => ?_,
        fun (below : e.failCounter f.counter < e.threshold) => ?_⟩,
      agrees.failSample_active,
      fun healing => ⟨fun (reached : e.failCounter f.counter = e.threshold) => ?_,
        fun (below : e.failCounter f.counter < e.threshold) => ?_⟩,
      fun large unconfirmed => ?_⟩
    · rw [sampleFault_fail, failSample_of_unconfirmed e f unconfirmed, if_pos reached]
      exact ⟨rfl, rfl⟩
    · rw [sampleFault_fail, failSample_of_unconfirmed e f unconfirmed, if_neg (Nat.ne_of_lt below)]
      exact ⟨rfl, rfl⟩
    · rw [sampleFault_fail, failSample_of_healing e f healing, if_pos reached]
      exact ⟨rfl, rfl⟩
    · rw [sampleFault_fail, failSample_of_healing e f healing, if_neg (Nat.ne_of_lt below)]
      exact ⟨rfl, rfl⟩
    · rw [sampleFault_fail, failSample_of_unconfirmed e f unconfirmed,
        if_pos (e.failCounter_of_large_step large f.counter)]
  · rw [takeSample_of_reached x d i true entry state]
    refine ⟨rfl, fun k other => ?_, fun confirms => ?_, fun quiet => ?_⟩
    · simp [Ne.symm other]
    · rw [confirms]
      exact ⟨fun g flags => by simp [flags], e.capture x.cache, rfl, e.capture_length x.cache,
        fun k n c => e.capture_getElem?⟩
    · have nothing : (sampleFault e x.verified true f).2 = .nothing :=
        (failSample_outcome_cases e f).resolve_left quiet
      rw [nothing]
      exact ⟨fun g flags => by simp [flags], List.append_nil _⟩

/-! ## All faults of a copy of the tables (R81) -/

section FaultLists

/-- The counter of every working fault of the tables agrees with its state: what `State.countersSound` asks of the
working tables and the fault states. -/
def Tables.faultsAgree (t : Tables) (faults : List FaultState) : Prop :=
  ∀ x ∈ t.faultList.zip faults, x.2.agreesWith x.1

theorem State.countersSound_iff (s : State) :
    s.countersSound ↔ s.tablesInRange ∧ s.working.faultsAgree s.faults := Iff.rfl

variable {t : Tables} {faults : List FaultState}

theorem Tables.faultsAgree_iff : t.faultsAgree faults ↔
    ∀ i e f, entryAt t.settings.faultCount t.faults i = some e → faults[i]? = some f → f.agreesWith e := by
  simp only [Tables.faultsAgree, List.mem_iff_getElem?, List.getElem?_zip_eq_some, Tables.faultList,
    inUse_getElem?]
  exact ⟨fun agree i e f entry state => agree (e, f) ⟨i, entry, state⟩,
    fun agree x ⟨i, entry, state⟩ => agree i x.1 x.2 entry state⟩

@[simp] theorem Tables.faultsAgree_nil : t.faultsAgree [] := by
  simp [Tables.faultsAgree]

theorem Tables.faultsInRange.entry (range : t.faultsInRange) {i : Nat} {e : FaultEntry}
    (entry : entryAt t.settings.faultCount t.faults i = some e) : e.inRange :=
  range e (List.mem_of_getElem? ((entryAt_eq_some _ _ _ _).1 entry).2)

theorem Tables.faultsAgree.set (agree : t.faultsAgree faults) {i : Nat} {e : FaultEntry} {f : FaultState}
    (entry : entryAt t.settings.faultCount t.faults i = some e) (agrees : f.agreesWith e) :
    t.faultsAgree (faults.set i f) := by
  rw [Tables.faultsAgree_iff] at agree ⊢
  intro k d g entryK stateK
  by_cases same : i = k
  · subst same
    obtain rfl : e = d := Option.some.inj (entry.symm.trans entryK)
    rw [List.getElem?_set_self'] at stateK
    obtain ⟨-, -, rfl⟩ := Option.map_eq_some_iff.1 stateK
    exact agrees
  · exact agree k d g entryK (by rwa [List.getElem?_set_ne same] at stateK)

theorem takeSample_faultsAgree {x : SampleContext} {d : Debounced} (range : x.tables.faultsInRange)
    (agree : x.tables.faultsAgree d.faults) (sample : Nat × Bool) :
    x.tables.faultsAgree (takeSample x d sample).faults := by
  obtain ⟨i, fail⟩ := sample
  obtain kept | ⟨e, f, entry, state, written⟩ := takeSample_faults_cases x d i fail
  · rwa [kept]
  · rw [written]
    have agrees := Tables.faultsAgree_iff.1 agree i e f entry state
    exact agree.set entry (sampleFault_agrees (range.entry entry) agrees x.verified fail)

/-- The samples of one event, taken one by one, keep the agreement (R74, R81, R82). -/
theorem takeSamples_faultsAgree {x : SampleContext} (range : x.tables.faultsInRange)
    (agree : x.tables.faultsAgree faults) (samples : List (Nat × Bool)) (flags : List RideFlags) :
    x.tables.faultsAgree (takeSamples x samples faults flags).faults :=
  List.foldlRecOn samples (takeSample x) (motive := fun d => x.tables.faultsAgree d.faults) agree
    fun _ agreeing sample _ => takeSample_faultsAgree range agreeing sample

/-- Derivation gives ACTIVE at the threshold or NOT_TESTED at 0 (R93). -/
theorem FaultEntry.derive_cases (e : FaultEntry) (slots : List Slot) (queue : List WriteEntry) :
    e.derive slots queue = ⟨.notTested, 0⟩ ∨ e.derive slots queue = ⟨.active, e.threshold⟩ := by
  unfold FaultEntry.derive
  split
  · exact .inr rfl
  · exact .inl rfl

theorem FaultEntry.derive_agrees (e : FaultEntry) (slots : List Slot) (queue : List WriteEntry) :
    (e.derive slots queue).agreesWith e := by
  obtain untested | active := e.derive_cases slots queue
  · rw [untested]; exact FaultState.agreesWith_notTested.2 rfl
  · rw [active]; exact FaultState.agreesWith_active.2 rfl

theorem Tables.faultsAgree_derive (t : Tables) (slots : List Slot) (queue : List WriteEntry) :
    t.faultsAgree (deriveFaults t slots queue) := by
  rw [Tables.faultsAgree_iff]
  intro i e f entry state
  rw [deriveFaults, List.getElem?_map, Tables.faultList, inUse_getElem?, entry] at state
  obtain rfl := Option.some.inj state
  exact e.derive_agrees slots queue

/-- The fault states that a CLEAR leaves (R97). -/
theorem State.acceptClear_faults_getElem? (s : State) (scope : ClearScope) (i : Nat) :
    (s.acceptClear scope).faults[i]? = s.faults[i]?.map
      fun f => if scope.matchesIndex s.working i then ⟨.notTested, 0⟩ else f := by
  simp only [State.acceptClear, State.refreshLamps_faults, mapFrom_getElem?, Nat.zero_add]

theorem State.acceptClear_faultsAgree (s : State) (scope : ClearScope) (agree : s.working.faultsAgree s.faults) :
    s.working.faultsAgree (s.acceptClear scope).faults := by
  rw [Tables.faultsAgree_iff] at agree ⊢
  intro i e f entry state
  rw [State.acceptClear_faults_getElem?, Option.map_eq_some_iff] at state
  obtain ⟨old, held, rfl⟩ := state
  split
  · exact FaultState.agreesWith_notTested.2 rfl
  · exact agree i e old entry held

end FaultLists

/-! ## Fault Table entries in their ranges (R78, R156) -/

section Ranges

/-- What a written value comes to, if the write is accepted at all, has a property. -/
def FieldWrite.Gives {α : Type} (P : α → Prop) : FieldWrite α → Prop
  | .noField => True
  | .badValue => True
  | .ok a => P a

variable {α β : Type} {P : α → Prop}

theorem writeNat_gives {lo hi : Nat} {v : Int} {set : Nat → α} (good : ∀ x, lo ≤ x → P (set x)) :
    (writeNat lo hi v set).Gives P := by
  unfold writeNat
  split
  · exact good _ (by omega)
  · exact trivial

theorem writeFlag_gives {v : Int} {set : Bool → α} (good : ∀ b, P (set b)) : (writeFlag v set).Gives P := by
  unfold writeFlag
  split
  · exact good _
  · split
    · exact good _
    · exact trivial

theorem writeCode_gives {ofCode : Int → Option β} {v : Int} {set : β → α} (good : ∀ b, P (set b)) :
    (writeCode ofCode v set).Gives P := by
  unfold writeCode
  split
  · exact good _
  · exact trivial

theorem FieldWrite.Gives.map {f : β → α} {w : FieldWrite β} (good : w.Gives fun b => P (f b)) :
    (w.map f).Gives P := by
  cases w with
  | noField | badValue => exact trivial
  | ok b => exact good

theorem FieldWrite.gives_map_of_forall {f : β → α} (w : FieldWrite β) (good : ∀ b, P (f b)) :
    (w.map f).Gives P := by
  cases w with
  | noField | badValue => exact trivial
  | ok b => exact good b

/-- A list of entries with a property keeps it when the entry written has it. -/
theorem writeEntry_gives {xs : List α} (all : ∀ a ∈ xs, P a) (i : Nat) {write : α → FieldWrite α}
    (good : ∀ a, P a → (write a).Gives P) : (writeEntry xs i write).Gives fun ys => ∀ a ∈ ys, P a := by
  unfold writeEntry
  split
  · exact trivial
  · next e held =>
    have written := good e (all e (List.mem_of_getElem? held))
    split
    · exact trivial
    · exact trivial
    · next e' ok =>
      rw [ok] at written
      intro a member
      obtain old | rfl := List.mem_or_eq_of_mem_set member
      · exact all a old
      · exact written

/-- The ranges of threshold, up step and down step begin at 1 (R78). -/
theorem FaultEntry.inRange.writeField {e : FaultEntry} (range : e.inRange) (v : Int) (field : Nat) :
    (e.writeField v field).Gives FaultEntry.inRange := by
  obtain ⟨threshold, up, down⟩ := range
  unfold FaultEntry.writeField
  match field with
  | 4 => exact writeNat_gives fun _ positive => ⟨positive, up, down⟩
  | 5 => exact writeNat_gives fun _ positive => ⟨threshold, positive, down⟩
  | 6 => exact writeNat_gives fun _ positive => ⟨threshold, up, positive⟩
  | 0 | 3 | 8 | 10 | 11 | 12 | 13 | 14 | 15 | 16 => exact writeNat_gives fun _ _ => ⟨threshold, up, down⟩
  | 1 | 2 | 9 => exact writeCode_gives fun _ => ⟨threshold, up, down⟩
  | 7 => exact writeFlag_gives fun _ => ⟨threshold, up, down⟩
  | _ + 17 => exact trivial

theorem Tables.faultsInRange.writeField {t : Tables} (range : t.faultsInRange) (name : TableName)
    (index field : Nat) (v : Int) : (t.writeField name index field v).Gives Tables.faultsInRange := by
  cases name with
  | settings =>
    unfold Tables.writeField
    dsimp only
    split
    · exact FieldWrite.gives_map_of_forall _ fun _ => range
    · exact trivial
  | frames | signals | watches => exact FieldWrite.gives_map_of_forall _ fun _ => range
  | faults => exact FieldWrite.Gives.map (writeEntry_gives range index fun _ old => old.writeField v field)

theorem Tables.faultsInRange.writeByCode {t : Tables} (range : t.faultsInRange) (table i field : Byte)
    (value : BitVec 32) : (t.writeByCode table i field value).Gives Tables.faultsInRange := by
  unfold Tables.writeByCode
  split
  · exact range.writeField ..
  · exact trivial

theorem Tables.default_faultsInRange : Tables.default.faultsInRange := by
  intro e member
  obtain rfl := List.eq_of_mem_replicate member
  exact ⟨Nat.le_refl 1, Nat.le_refl 1, Nat.le_refl 1⟩

theorem Store.startTables_faultsInRange {x : Store} (range : x.tables.faultsInRange) :
    x.startTables.faultsInRange := by
  unfold Store.startTables
  split
  · exact range
  · exact Tables.default_faultsInRange

end Ranges

/-! ## What the agreement is about: the part of the state that R81 reads -/

section FaultPart

/-- What `State.countersSound` reads of a state: the three copies of the tables and the fault states. -/
def State.faultPart (s : State) : Tables × Tables × Tables × List FaultState :=
  (s.working, s.staging, s.store.tables, s.faults)

variable {s t : State}

/-- A change to another part of the state keeps the agreement. -/
theorem State.countersSound.of_faultPart (sound : s.countersSound) (same : t.faultPart = s.faultPart) :
    t.countersSound := by
  simp only [State.faultPart, Prod.mk.injEq] at same
  obtain ⟨working, staging, store, faults⟩ := same
  rw [State.countersSound_iff, State.tablesInRange, working, staging, store, faults]
  exact sound

variable (s)

@[simp] theorem State.faultPart_withResponder (r : Responder) : (s.withResponder r).faultPart = s.faultPart := rfl

@[simp] theorem State.faultPart_withRetained (r : Retained) : (s.withRetained r).faultPart = s.faultPart := rfl

@[simp] theorem State.faultPart_setPort (p : Port) (r : PortRecord) : (s.setPort p r).faultPart = s.faultPart := by
  simp [State.faultPart]

/-! ### Frames out of the module -/

@[simp] theorem State.faultPart_forward (p : Port) (f : CanFrame) : (s.forward p f).faultPart = s.faultPart := by
  simp [State.faultPart]

@[simp] theorem State.faultPart_offerResponse (f : TxFrame) : (s.offerResponse f).faultPart = s.faultPart := by
  simp [State.faultPart]

@[simp] theorem State.faultPart_partJoined : s.partJoined.faultPart = s.faultPart := by
  unfold State.partJoined
  split <;> simp

@[simp] theorem State.faultPart_offerPartFrame (f : TxFrame) : (s.offerPartFrame f).faultPart = s.faultPart := by
  obtain ⟨-, joins⟩ | ⟨-, -, waits⟩ | ⟨-, discarded⟩ := s.offerPartFrame_cases f
  · simp [joins]
  · simp [waits]
  · simp [discarded]

@[simp] theorem State.faultPart_answer (code : Byte) (r : ServiceResult) (rest : List Byte) :
    (s.answer code r rest).faultPart = s.faultPart := by
  simp [State.answer]

@[simp] theorem State.faultPart_beginParts (c : FrozenCopy) : (s.beginParts c).faultPart = s.faultPart := by
  simp [State.beginParts]

theorem State.faultPart_reofferWaiting : s.reofferWaiting.faultPart = s.faultPart := by
  unfold State.reofferWaiting
  split
  · split
    · dsimp only
      split <;> simp
    · rfl
  · rfl

theorem State.faultPart_offerPart : s.offerPart.faultPart = s.faultPart := by
  unfold State.offerPart
  split
  · split <;> simp
  · rfl

@[simp] theorem State.faultPart_unknownFrame (p : Port) (f : CanFrame) :
    (s.unknownFrame p f).faultPart = s.faultPart := by
  unfold State.unknownFrame
  dsimp only
  split <;> simp

@[simp] theorem State.faultPart_departedSent (p : Port) : (s.departedSent p).faultPart = s.faultPart := by
  cases p <;> rfl

@[simp] theorem State.faultPart_departedEmptied (p : Port) (before : PortRecord) :
    (s.departedEmptied p before).faultPart = s.faultPart := by
  cases p with
  | control => rfl
  | vehicle =>
    unfold State.departedEmptied
    dsimp only
    split <;> simp

/-! ### Slot writes and the end of AFTER_RUN -/

@[simp] theorem State.faultPart_standbyPastLimit : s.standbyPastLimit.faultPart = s.faultPart := by
  obtain ⟨-, -, -, -, rests⟩ | stays := s.standbyPastLimit_cases
  · rw [rests]; rfl
  · rw [stays]

theorem State.faultPart_beginHead (head : WriteEntry) (rest : List WriteEntry) :
    (s.beginHead head rest).faultPart = s.faultPart := by
  obtain ⟨i, c, b, begins⟩ | unrecorded | ⟨q, leaves⟩ := s.beginHead_cases head rest
  · rw [begins]; rfl
  · rw [unrecorded]; rfl
  · rw [leaves]; rfl

@[simp] theorem State.faultPart_finishWrite (i : Nat) (x : Slot) (q : List WriteEntry) :
    (s.finishWrite i x q).faultPart = s.faultPart := rfl

theorem State.faultPart_completeConfirm : s.completeConfirm.faultPart = s.faultPart := by
  unfold State.completeConfirm
  split <;> simp

theorem State.faultPart_completeHeal : s.completeHeal.faultPart = s.faultPart := by
  unfold State.completeHeal
  split <;> simp

@[simp] theorem State.faultPart_completeAgeWrite (i : Nat) (r : Record) (q : List WriteEntry) :
    (s.completeAgeWrite i r q).faultPart = s.faultPart := by
  unfold State.completeAgeWrite
  dsimp only
  split <;> rfl

theorem State.faultPart_completeAge : s.completeAge.faultPart = s.faultPart := by
  unfold State.completeAge
  split <;> simp

theorem State.faultPart_reachLimit : s.reachLimit.faultPart = s.faultPart :=
  State.faultPart_standbyPastLimit _

theorem State.faultPart_completeStore : s.completeStore.faultPart = s.faultPart :=
  State.faultPart_standbyPastLimit _

/-! ### Lamps, reports and the status broadcast -/

theorem State.faultPart_advanceStep : s.advanceStep.faultPart = s.faultPart := by
  unfold State.advanceStep
  split <;> rfl

theorem State.faultPart_crossBoundary : s.crossBoundary.faultPart = s.faultPart := by
  unfold State.crossBoundary
  split
  · rfl
  · split <;> rfl

theorem State.faultPart_offerReport : s.offerReport.faultPart = s.faultPart := by
  unfold State.offerReport
  split
  · rfl
  · split <;> rfl

theorem State.faultPart_beginSlot : s.beginSlot.faultPart = s.faultPart := by
  unfold State.beginSlot
  dsimp only
  split
  · exact State.faultPart_offerReport _
  · rfl

theorem State.faultPart_expireStatus : s.expireStatus.faultPart = s.faultPart := by
  unfold State.expireStatus State.offerStatus
  split <;> rfl

/-! ### The supply and the Timebase -/

@[simp] theorem State.faultPart_readBattery (v : Nat) : (s.readBattery v).faultPart = s.faultPart := by
  unfold State.readBattery
  split <;> rfl

@[simp] theorem State.faultPart_abortStore (b : Band) : (s.abortStore b).faultPart = s.faultPart := by
  obtain ⟨-, -, aborted⟩ | ⟨-, kept⟩ := s.abortStore_cases b
  · rw [aborted]; rfl
  · rw [kept]

theorem State.faultPart_settleTimebase : s.settleTimebase.faultPart = s.faultPart := by
  simp [State.faultPart]

theorem State.faultPart_endRide : s.endRide.faultPart = s.faultPart := rfl

end FaultPart

/-! ## Operations that take samples or replace fault states or tables -/

section Keeping

variable {s : State}

theorem State.countersSound.ite {c : Prop} [Decidable c] {t : State} (yes : s.countersSound)
    (no : t.countersSound) : (if c then s else t).countersSound := by
  split
  · exact yes
  · exact no

/-- An event over the watches keeps the agreement: its samples do (R74, R81). -/
theorem State.countersSound.watchEvent (sound : s.countersSound) (reach : WatchEntry → Option Reach) :
    (s.watchEvent reach).countersSound := by
  obtain ⟨ranges, agree⟩ := sound
  obtain ⟨-, -, faults, -⟩ := s.watchEvent_takesEvent reach
  rw [State.countersSound_iff]
  refine ⟨by simpa [State.tablesInRange] using ranges, ?_⟩
  rw [State.watchEvent_working, faults]
  exact takeSamples_faultsAgree (x := s.sampleContext) ranges.1 agree _ _

theorem State.countersSound.changePort (sound : s.countersSound) (p : Port) (r : PortRecord) :
    (s.changePort p r).countersSound := by
  have placed : (s.setPort p r).countersSound := sound.of_faultPart (s.faultPart_setPort p r)
  obtain same | ⟨-, -, announced⟩ := s.changePort_cases p r
  · rwa [same]
  · rw [announced]; exact placed.watchEvent _

/-! ### Received frames (R9 to R14, R26, R31) -/

theorem State.faultPart_arrivalWritten (s : State) (i : Nat) (e : FrameEntry) (j : Judgement) (data : List Byte) :
    (s.arrivalWritten i e j data).faultPart = s.faultPart := by
  simp only [State.faultPart, State.arrivalWritten]

theorem State.countersSound.arrival (sound : s.countersSound) (i : Nat) (e : FrameEntry) (j : Judgement)
    (data : List Byte) : (s.arrival i e j data).countersSound := by
  rw [State.arrival_eq]
  exact State.countersSound.watchEvent (sound.of_faultPart (s.faultPart_arrivalWritten i e j data)) _

theorem State.countersSound.expire (sound : s.countersSound) (i : Nat) : (s.expire i).countersSound := by
  unfold State.expire
  apply State.countersSound.watchEvent
  exact sound.of_faultPart (by simp only [State.faultPart])

theorem State.countersSound.forward (sound : s.countersSound) (p : Port) (f : CanFrame) :
    (s.forward p f).countersSound :=
  sound.of_faultPart (s.faultPart_forward p f)

theorem State.countersSound.knownFrame (sound : s.countersSound) (p : Port) (i : Nat) (e : FrameEntry)
    (f : CanFrame) : (s.knownFrame p i e f).countersSound := by
  have arrived := sound.arrival i e (judge e (s.recordOf i) f.data) f.data
  exact ((arrived.forward ..).ite arrived).ite ((sound.forward ..).ite sound)

theorem State.countersSound.lookedUp (sound : s.countersSound) (p : Port) (f : CanFrame) :
    (s.lookedUp p f).countersSound := by
  unfold State.lookedUp
  split
  · split
    · exact sound.knownFrame ..
    · exact sound.of_faultPart (by simp)
  · exact sound.of_faultPart (by simp)

/-! ### Resets, starts and rides (R16, R165 to R173) -/

theorem Store.afterReset_tables (x : Store) : x.afterReset.tables = x.tables := by
  unfold Store.afterReset
  split <;> rfl

/-- Entry to STARTING leaves no fault state (R98). -/
theorem State.countersSound.intoStarting (sound : s.countersSound) (stage : StartStage) :
    (s.intoStarting stage).countersSound :=
  ⟨sound.1, Tables.faultsAgree_nil⟩

/-- A reset leaves no fault state, and staging as a copy of the working tables (R165). -/
theorem State.countersSound.resetModule (sound : s.countersSound) (kind : ResetKind) :
    (s.resetModule kind).countersSound := by
  obtain ⟨⟨working, -, store⟩, -⟩ := sound
  refine ⟨⟨working, working, ?_⟩, Tables.faultsAgree_nil⟩
  rw [← s.store.afterReset_tables] at store
  exact store

/-- A ride start derives the fault states anew (R94, R95). -/
theorem State.countersSound.startRide (sound : s.countersSound) (bulb : Option Nat) :
    (s.startRide bulb).countersSound := by
  unfold State.startRide
  apply State.countersSound.watchEvent
  exact ⟨sound.1, s.working.faultsAgree_derive _ _⟩

theorem State.countersSound.newRide (sound : s.countersSound) : s.newRide.countersSound :=
  State.countersSound.startRide (sound.of_faultPart (s.faultPart_withRetained _)) _

theorem State.countersSound.resumeRide (sound : s.countersSound) : s.resumeRide.countersSound :=
  State.countersSound.startRide (sound.of_faultPart (s.faultPart_withRetained _)) _

theorem State.countersSound.rideDecision (sound : s.countersSound) (on : Bool) :
    (s.rideDecision on).countersSound := by
  obtain ⟨t, settled, decision⟩ := s.rideDecision_cases on
  have same : t.faultPart = s.faultPart := by
    obtain rfl | rfl := settled
    · rfl
    · exact s.faultPart_settleTimebase
  have joined : t.joinBuses.countersSound := sound.of_faultPart same
  obtain resumes | starts | ends | sleeps := decision
  · rw [resumes]; exact joined.resumeRide
  · rw [starts]; exact joined.newRide
  · rw [ends]; exact joined.of_faultPart t.joinBuses.faultPart_endRide
  · rw [sleeps]; exact sound.of_faultPart same

/-- Steps 1 to 4 of STARTING take the store's tables or the defaults, and derive the fault states (R93, R161). -/
theorem State.countersSound.setUp (sound : s.countersSound) : s.setUp.countersSound := by
  obtain ⟨⟨-, -, store⟩, -⟩ := sound
  have started := Store.startTables_faultsInRange store
  exact ⟨⟨started, started, store⟩, s.store.startTables.faultsAgree_derive _ _⟩

theorem State.countersSound.finishStart (sound : s.countersSound) : s.finishStart.countersSound := by
  unfold State.finishStart
  split
  · exact sound.rideDecision _
  · exact sound.of_faultPart rfl

theorem State.countersSound.startUp (sound : s.countersSound) : s.startUp.countersSound :=
  (sound.resetModule _).ite sound.setUp.finishStart

theorem State.countersSound.powerOn (sound : s.countersSound) : s.powerOn.countersSound :=
  sound.ite (State.countersSound.resetModule (sound.of_faultPart rfl) .powerOn)

theorem State.countersSound.settleOn (sound : s.countersSound) : s.settleOn.countersSound := by
  have settled : State.countersSound { s with keySettled := some true } := sound.of_faultPart rfl
  unfold State.settleOn
  dsimp only
  split
  · exact settled.rideDecision true
  · exact settled
  · exact settled
  · exact settled.newRide
  · exact settled.intoStarting .keyOn

theorem State.countersSound.settleOff (sound : s.countersSound) : s.settleOff.countersSound := by
  have settled : State.countersSound { s with keySettled := some false } := sound.of_faultPart rfl
  unfold State.settleOff
  dsimp only
  split
  · exact settled.rideDecision false
  · exact settled
  · exact settled.of_faultPart (State.faultPart_endRide _)
  · exact settled
  · exact settled

/-! ### Supply samples (R163, R164) -/

theorem State.countersSound.announceBand (sound : s.countersSound) (old : Band) :
    (s.announceBand old).countersSound :=
  (sound.watchEvent _).ite sound

theorem State.countersSound.setBand (sound : s.countersSound) (b : Band) : (s.setBand b).countersSound := by
  obtain ⟨-, stays⟩ | ⟨-, changes⟩ := s.setBand_cases b
  · rwa [stays]
  · rw [changes]
    have aborted : (State.abortStore { s with band := b } b).countersSound :=
      sound.of_faultPart (State.faultPart_abortStore _ b)
    exact (aborted.announceBand s.band).of_faultPart (State.faultPart_standbyPastLimit _)

theorem State.countersSound.countSample (sound : s.countersSound) : s.countSample.countersSound := by
  obtain ⟨-, stays⟩ | ⟨-, -, counts⟩ | ⟨-, -, evaluates⟩ := s.countSample_cases
  · rwa [stays]
  · rw [counts]; exact sound.of_faultPart rfl
  · rw [evaluates]; exact State.countersSound.watchEvent (sound.of_faultPart rfl) _

theorem State.countersSound.takeSample (sound : s.countersSound) (v : Nat) : (s.takeSample v).countersSound := by
  have read : (s.readBattery v).countersSound := sound.of_faultPart (s.faultPart_readBattery v)
  obtain ⟨-, held⟩ | ⟨-, cut⟩ | ⟨b, -, -, sampled⟩ := s.takeSample_cases v
  · rwa [held]
  · rw [cut]; exact read.resetModule _
  · rw [sampled]; exact (read.setBand b).countSample

/-! ### Service requests (R148 to R162) -/

theorem State.countersSound.answer (sound : s.countersSound) (code : Byte) (r : ServiceResult)
    (rest : List Byte) : (s.answer code r rest).countersSound :=
  sound.of_faultPart (s.faultPart_answer code r rest)

/-- An accepted CLEAR leaves each matched fault NOT_TESTED and every other as it is (R97). -/
theorem State.countersSound.acceptClear (sound : s.countersSound) (scope : ClearScope) :
    (s.acceptClear scope).countersSound :=
  ⟨sound.1, s.acceptClear_faultsAgree scope sound.2⟩

/-- An accepted COMMIT puts the staging tables to work and derives the fault states (R96, R160). -/
theorem State.countersSound.acceptCommit (sound : s.countersSound) : s.acceptCommit.countersSound := by
  obtain ⟨⟨-, staging, -⟩, -⟩ := sound
  have installed : (s.installTables.commitLamps s.working.settings).countersSound :=
    ⟨⟨staging, staging, staging⟩, s.staging.faultsAgree_derive _ _⟩
  exact (installed.watchEvent _).ite installed

/-- The staging tables alone change, within their ranges (R156). -/
theorem State.countersSound.withStaging (sound : s.countersSound) {t : Tables} (range : t.faultsInRange) :
    State.countersSound { s with staging := t } := by
  obtain ⟨⟨working, -, store⟩, agree⟩ := sound
  exact ⟨⟨working, range, store⟩, agree⟩

theorem State.countersSound.serveWriteTable (sound : s.countersSound) (table i field : Byte) (value : BitVec 32) :
    (s.serveWriteTable table i field value).countersSound := by
  have ⟨⟨_, staging, _⟩, _⟩ := sound
  have written := staging.writeByCode table i field value
  unfold State.serveWriteTable
  split
  · exact sound.answer ..
  · exact sound.answer ..
  · next t ok =>
    rw [ok] at written
    exact (sound.withStaging written).answer ..

theorem State.countersSound.serveRevert (sound : s.countersSound) : s.serveRevert.countersSound := by
  have ⟨⟨working, _, _⟩, _⟩ := sound
  exact (sound.withStaging working).answer ..

theorem State.countersSound.serveClear (sound : s.countersSound) (scope : Byte) (code : BitVec 16) :
    (s.serveClear scope code).countersSound := by
  unfold State.serveClear
  split
  · exact sound.answer ..
  · next c _ => exact (sound.answer ..).ite ((sound.answer ..).ite ((sound.acceptClear c).answer ..))

theorem State.countersSound.serveCommit (sound : s.countersSound) : s.serveCommit.countersSound := by
  unfold State.serveCommit
  split
  · exact sound.answer ..
  · exact sound.acceptCommit.answer ..

theorem State.countersSound.serveRestart (sound : s.countersSound) : s.serveRestart.countersSound :=
  (sound.answer ..).ite ((sound.answer ..).ite (sound.of_faultPart (State.faultPart_offerResponse _ _)))

end Keeping

section Reads

variable (s : State)

theorem State.faultPart_serveReadRecord (slot : Byte) : (s.serveReadRecord slot).faultPart = s.faultPart := by
  unfold State.serveReadRecord
  split
  · split <;> simp
  · simp

theorem State.faultPart_serveReadFrameState (i : Byte) : (s.serveReadFrameState i).faultPart = s.faultPart := by
  unfold State.serveReadFrameState
  split <;> simp

theorem State.faultPart_serveReadSignal (i : Byte) : (s.serveReadSignal i).faultPart = s.faultPart := by
  unfold State.serveReadSignal
  split <;> simp

theorem State.faultPart_serveReadWatch (i : Byte) : (s.serveReadWatch i).faultPart = s.faultPart := by
  unfold State.serveReadWatch
  split <;> simp

theorem State.faultPart_serveReadFaultState (i : Byte) : (s.serveReadFaultState i).faultPart = s.faultPart := by
  unfold State.serveReadFaultState
  split <;> simp

theorem State.faultPart_serveReadTable (table i field : Byte) :
    (s.serveReadTable table i field).faultPart = s.faultPart := by
  unfold State.serveReadTable
  split <;> simp

end Reads

/-! ## Every command -/

section Commands

variable {s : State}

theorem State.countersSound.serve (sound : s.countersSound) (q : Request) : (s.serve q).countersSound := by
  cases q with
  | readStatus page => exact sound.answer ..
  | readRecord slot => exact sound.of_faultPart (s.faultPart_serveReadRecord slot)
  | readFrameState i => exact sound.of_faultPart (s.faultPart_serveReadFrameState i)
  | readSignal i => exact sound.of_faultPart (s.faultPart_serveReadSignal i)
  | readWatch i => exact sound.of_faultPart (s.faultPart_serveReadWatch i)
  | readFaultState i => exact sound.of_faultPart (s.faultPart_serveReadFaultState i)
  | readTable t i f => exact sound.of_faultPart (s.faultPart_serveReadTable t i f)
  | writeTable t i f v => exact sound.serveWriteTable t i f v
  | revert => exact sound.serveRevert
  | clear scope code => exact sound.serveClear scope code
  | commit => exact sound.serveCommit
  | restart => exact sound.serveRestart
  | badRequest code => exact sound.answer ..

theorem State.countersSound.handle (sound : s.countersSound) (q : Request) : (s.handle q).countersSound := by
  obtain ignored | busy | served := s.handle_cases q
  · rwa [ignored]
  · rw [busy]; exact sound.answer ..
  · rw [served]; exact sound.serve q

theorem State.countersSound.sortFrame (sound : s.countersSound) (p : Port) (f : CanFrame) :
    (s.sortFrame p f).countersSound := by
  have unknown : (s.unknownFrame p f).countersSound := sound.of_faultPart (s.faultPart_unknownFrame p f)
  have clash : s.countClash.countersSound := sound.of_faultPart rfl
  exact unknown.ite ((sound.handle _).ite (clash.ite (sound.lookedUp p f)))

theorem State.countersSound.writeBegin (sound : s.countersSound) :
    ∃ t, execWriteBegin s = .next t ∧ t.countersSound := by
  refine ⟨_, rfl, State.countersSound.ite ?_ sound⟩
  split
  · exact sound.of_faultPart (s.faultPart_beginHead _ _)
  · exact sound

/-- A command answers a state in which the counters still agree (R81). -/
theorem State.countersSound.exec (sound : s.countersSound) (c : Instr) :
    ∃ t, exec c s = .next t ∧ t.countersSound := by
  cases c with
  | frameReceived p f => exact ⟨_, rfl, ((sound.changePort ..).sortFrame ..).ite sound⟩
  | receiveError p | recoverySequence p => exact ⟨_, rfl, (sound.changePort ..).ite sound⟩
  | lostArbitration p => exact ⟨_, rfl, sound⟩
  | transmitSuccess p =>
    exact ⟨_, rfl, ((sound.changePort ..).of_faultPart (State.faultPart_departedSent _ p)).ite sound⟩
  | transmitError p =>
    exact ⟨_, rfl, ((sound.changePort ..).of_faultPart (State.faultPart_departedEmptied _ p _)).ite sound⟩
  | waitingFrameReoffer => exact ⟨_, rfl, sound.of_faultPart s.faultPart_reofferWaiting⟩
  | responsePartOffer => exact ⟨_, rfl, sound.of_faultPart s.faultPart_offerPart⟩
  | frameTimerExpiry i => exact ⟨_, rfl, (sound.expire i).ite sound⟩
  | writeBegin => exact sound.writeBegin
  | confirmWriteComplete => exact ⟨_, rfl, sound.of_faultPart s.faultPart_completeConfirm⟩
  | healWriteComplete => exact ⟨_, rfl, sound.of_faultPart s.faultPart_completeHeal⟩
  | ageWriteComplete => exact ⟨_, rfl, sound.of_faultPart s.faultPart_completeAge⟩
  | supplySample v => exact ⟨_, rfl, sound.takeSample v⟩
  | supplyEvaluation => exact ⟨_, rfl, (sound.takeSample _).ite sound⟩
  | powerOn => exact ⟨_, rfl, sound.powerOn⟩
  | startup => exact ⟨_, rfl, sound.startUp.ite sound⟩
  | keyLevelChange on => exact ⟨_, rfl, sound.ite (sound.of_faultPart rfl)⟩
  | keyOnSettled => exact ⟨_, rfl, sound.settleOn.ite sound⟩
  | keyOffSettled => exact ⟨_, rfl, sound.settleOff.ite sound⟩
  | afterRunEnd => exact ⟨_, rfl, State.countersSound.ite (sound.of_faultPart rfl) sound⟩
  | afterRunLimit => exact ⟨_, rfl, (sound.of_faultPart s.faultPart_reachLimit).ite sound⟩
  | lampStep => exact ⟨_, rfl, (sound.of_faultPart s.faultPart_advanceStep).ite sound⟩
  | cycleBoundary => exact ⟨_, rfl, (sound.of_faultPart s.faultPart_crossBoundary).ite sound⟩
  | windowBegin => exact ⟨_, rfl, State.countersSound.ite (sound.of_faultPart rfl) sound⟩
  | pacerSlot => exact ⟨_, rfl, (sound.of_faultPart s.faultPart_beginSlot).ite sound⟩
  | statusExpiry => exact ⟨_, rfl, (sound.of_faultPart s.faultPart_expireStatus).ite sound⟩
  | crystalStop => exact ⟨_, rfl, sound.of_faultPart rfl⟩
  | storeWriteComplete => exact ⟨_, rfl, (sound.of_faultPart s.faultPart_completeStore).ite sound⟩
  | readStatus _ | readRecord _ | readFrameState _ | readSignal _ | readWatch _ | readFaultState _
  | readTable _ _ _ | writeTable _ _ _ _ | revert | clear _ _ | commit | restart | badRequest _ =>
    exact ⟨_, rfl, sound.handle _⟩
  | serviceRestart => exact ⟨_, rfl, (sound.resetModule _).ite sound⟩
  | supplyCollapse => exact ⟨_, rfl, sound.of_faultPart rfl⟩

end Commands

/-! ## Threshold 1 (R81) -/

section ThresholdOne

variable {e : FaultEntry} {f : FaultState}

/-- Between 1 and the threshold less 1 lies no counter. -/
theorem FaultState.agreesWith.settled (agrees : f.agreesWith e) (one : e.threshold = 1) :
    f.state ≠ .pending ∧ f.state ≠ .healing := by
  obtain ⟨state, c⟩ := f
  constructor
  · rintro rfl
    obtain ⟨low, high⟩ := FaultState.agreesWith_pending.1 agrees
    omega
  · rintro rfl
    obtain ⟨low, high⟩ := FaultState.agreesWith_healing.1 agrees
    omega

theorem failSample_tested : (failSample e f).1.state ≠ .notTested := by
  obtain h | h | h := f.state.cases_of_confirm
  · rw [failSample_of_unconfirmed e f h]; split <;> simp
  · rw [failSample_of_active e f h]; simp
  · rw [failSample_of_healing e f h]; split <;> simp

theorem passSample_tested : (passSample e f).1.state ≠ .notTested := by
  obtain h | h := f.state.cases_of_confirm
  · rw [passSample_of_unconfirmed e f h]; split <;> simp
  · rw [passSample_of_confirmed e f h]; split <;> simp

/-- No sample leaves a fault NOT_TESTED (R83 to R85). -/
theorem sampleFault_tested (verified fail : Bool) : (sampleFault e verified fail f).1.state ≠ .notTested := by
  cases fail with
  | true => exact failSample_tested
  | false =>
    obtain ⟨active, ignored⟩ | taken := sampleFault_pass_cases e f verified
    · simp [ignored, active]
    · rw [taken]; exact passSample_tested

/-- With threshold 1 a sample takes a fault to ACTIVE or PASSED: the three other states are shut out (R81). -/
theorem sampleFault_of_threshold_one (range : e.inRange) (agrees : f.agreesWith e) (one : e.threshold = 1)
    (verified fail : Bool) : (sampleFault e verified fail f).1.state = .active
      ∨ (sampleFault e verified fail f).1.state = .passed := by
  have tested := sampleFault_tested (e := e) (f := f) verified fail
  obtain ⟨notPending, notHealing⟩ := (sampleFault_agrees range agrees verified fail).settled one
  cases after : (sampleFault e verified fail f).1.state with
  | notTested => exact absurd after tested
  | passed => exact .inr rfl
  | pending => exact absurd after notPending
  | active => exact .inl rfl
  | healing => exact absurd after notHealing

end ThresholdOne

/-- Settles O24: every command keeps the agreement, derivation and CLEAR give faults that agree, and threshold 1 leaves
no counter for PENDING and HEALING. -/
theorem countersAgreeWithStates : Obligations.CountersAgreeWithStates := by
  refine ⟨fun c s t sound run => ?_, FaultEntry.derive_cases, fun s scope i matched inside => ?_,
    fun e f range agrees => ⟨fun active => ?_, fun one => ?_⟩⟩
  · obtain ⟨u, answered, kept⟩ := sound.exec c
    obtain rfl := Host.Outcome.next.inj (answered.symm.trans run)
    exact kept
  · rw [State.acceptClear_faults_getElem?, List.getElem?_eq_getElem inside, Option.map_some, if_pos matched]
  · rw [agrees.counter_of_active active]
    exact Nat.ne_of_gt range.1
  · obtain ⟨pending, healing⟩ := agrees.settled one
    exact ⟨pending, healing, sampleFault_of_threshold_one range agrees one⟩

end Sys2Proof.Machine

namespace Sys2Proof.Machine

/-! ## What a command can do: a run of moves, each a named update of the state

Every invariant of the module is kept by each move; what a command does is a run of moves, so every command keeps it.
The move says what its update rests on; `State.moves_of_exec` is the one walk through the commands. -/

section Moves

/-- What happens to a port's record (R3 to R6, R14, R15). -/
inductive PortRecord.Next (p : PortRecord) : PortRecord → Prop
  | received (live : p.live = true) : Next p p.received
  | receiveFailed (live : p.live = true) : Next p p.receiveFailed
  | sent (live : p.live = true) : Next p p.sent
  | sendFailed (live : p.live = true) : Next p p.sendFailed
  | recovered (busOff : p.state = .busOff) : Next p p.recovered
  | dropped : Next p p.dropped
  | sawUnknown : Next p p.sawUnknown
  | join (f : TxFrame) (room : p.hasRoom = true) : Next p (p.join f)

/-- A command that may install the staging tables: COMMIT, as a row or in a request frame (R160; log entry 8). -/
def Instr.commits (c : Instr) : Prop :=
  c = .commit ∨ ∃ f, c = .frameReceived .vehicle f ∧ decodeRequest f.data = .commit

/-- The fields that the invariants read, taken from `s`; the others from `u`. -/
def State.withCore (u s : State) : State :=
  { u with
    power := s.power
    stage := s.stage
    retained := s.retained
    store := s.store
    configured := s.configured
    working := s.working
    control := s.control
    vehicle := s.vehicle
    clashes := s.clashes
    monitor := s.monitor
    cache := s.cache
    faults := s.faults
    writeQueue := s.writeQueue
    write := s.write
    engineLamp := s.engineLamp
    brakeLamp := s.brakeLamp
    stepPos := s.stepPos
    bulbCheck := s.bulbCheck
    reports := s.reports
    responder := s.responder
    pending := s.pending }

/-- The store at another state of it (R158). -/
def State.withStoreState (s : State) (x : StoreState) : State := { s with store := { s.store with state := x } }

/-- The record and the signals of an entry after its timer's expiry (R31, R32). -/
def State.expired (s : State) (i : Nat) : State :=
  { s with
    monitor := s.monitor.set i (s.recordOf i).afterExpiry
    cache := staleSignals s.working i s.cache }

/-- What the limit of AFTER_RUN leaves of the write queue, with DEFERRED_OVERFLOW (R121). -/
def State.limited (s : State) (overflow : Bool) : State :=
  { s with
    writeQueue := queueAtLimit s.write.isSome s.writeQueue
    retained := { s.retained with flags := { s.retained.flags with deferredOverflow := overflow } } }

/-- A ride start before its PORT watches are evaluated (R170, R171). -/
def State.rideBegun (s : State) (bulb : Option Nat) : State :=
  State.placeLamps
    { s with
      power := .running
      stage := .done
      control := s.control.zeroCounts
      vehicle := s.vehicle.zeroCounts
      clashes := 0
      monitor := initialMonitor s.working s.degraded s.now
      cache := initialCache s.working
      watches := uniformWatches s.working .notYet s.now
      faults := deriveFaults s.working s.retained.slots s.writeQueue
      reportsDropped := 0
      sampleCount := 0
      stepPos := 0
      boundaryDue := false
      bulbCheck := bulb
      limitPassed := false
      lampElapsed := 0 }

/-- Start-up waits at step 5 for the KEY line (R167). -/
def State.atKey (s : State) : State := { s with stage := .waitKey }

/-- STARTING waits for the KEY line, and the ride decision joins the buses (R167, R168). -/
def State.joins (s u : State) : Prop := s.power = .starting ∧ s.stage = .waitKey ∧ u = s.joinBuses

/-- One of the updates that commands are made of, with what it rests on. -/
inductive State.Move (c : Instr) : State → State → Prop
  | aside (s u : State) : Move c s (u.withCore s)
  | port (s : State) (p : Port) (r : PortRecord) (next : (s.port p).Next r) : Move c s (s.setPort p r)
  | clash (s : State) : Move c s s.countClash
  | responder (s : State) (r : Responder) (kept : s.responder.sound → r.sound) : Move c s (s.withResponder r)
  | event (s : State) (reach : WatchEntry → Option Reach) (running : s.power = .running) :
      Move c s (s.watchEvent reach)
  | arrival (s : State) (i : Nat) (e : FrameEntry) (j : Judgement) (data : List Byte)
      (running : s.power = .running) (entry : i < s.working.frameList.length) :
      Move c s (s.arrivalWritten i e j data)
  | expiry (s : State) (i : Nat) : Move c s (s.expired i)
  | beginWrite (s : State) (head : WriteEntry) (rest : List WriteEntry) (begins : s.canBeginWrite = true)
      (queue : s.writeQueue = head :: rest) : Move c s (s.beginHead head rest)
  | confirmed (s : State) (w : SlotWrite) (e : ConfirmEntry) (rest : List WriteEntry) (write : s.write = some w)
      (queue : s.writeQueue = .confirm e :: rest) :
      Move c s (s.finishWrite w.slot (.active (e.result w.base)) rest)
  | healed (s : State) (w : SlotWrite) (r : Record) (code time : Nat) (rest : List WriteEntry)
      (write : s.write = some w) (base : w.base = some r) (queue : s.writeQueue = .heal code time :: rest) :
      Move c s (s.finishWrite w.slot (.stored r.healed) rest)
  | aged (s : State) (w : SlotWrite) (r : Record) (codes : List Nat) (rest : List WriteEntry)
      (write : s.write = some w) (base : w.base = some r) (queue : s.writeQueue = .age codes :: rest) :
      Move c s (s.completeAgeWrite w.slot r (dropAgeCode codes rest))
  | limit (s : State) (overflow : Bool) (afterRun : s.power = .afterRun) : Move c s (s.limited overflow)
  | sleep (s : State) (afterRun : s.power = .afterRun) (idle : s.write = none) : Move c s s.intoStandby
  | lose (s : State) (other : c ≠ .startup) : Move c s s.loseRetained
  | reset (s : State) (kind : ResetKind) : Move c s (s.resetModule kind)
  | wake (s : State) (standby : s.power = .standby) : Move c s (s.intoStarting .keyOn)
  | setUp (s : State) (startup : c = .startup) (starting : s.power = .starting) :
      Move c s s.setUp.atKey
  | ride (s u : State) (r : Retained) (bulb : Option Nat) (boards : (s.power = .afterRun ∧ u = s) ∨ s.joins u)
      (opens : r = s.retained.resumed ∨ ∃ n, r = s.retained.newRide n) :
      Move c s ((u.withRetained r).rideBegun bulb)
  | rideEnd (s u : State) (boards : (s.power = .running ∧ u = s) ∨ s.joins u) : Move c s u.endRide
  | rest (s : State) (starting : s.power = .starting) (waits : s.stage = .waitKey) :
      Move c s { s with power := .standby, stage := .done }
  | abort (s : State) : Move c s (s.withStoreState .invalid)
  | stored (s : State) (writing : s.store.state = .writing) : Move c s (s.withStoreState .valid)
  | lampStep (s : State) : Move c s s.advanceStep
  | boundary (s : State) (running : s.power = .running) : Move c s s.crossBoundary
  | sendReport (s : State) (e : ReportEntry) (rest : List ReportEntry) (queue : s.reports = e :: rest) :
      Move c s { s with reports := rest }
  | clear (s : State) (scope : ClearScope) (quiet : s.retained.slots.any Slot.isWriting = false) :
      Move c s (s.acceptClear scope)
  | install (s : State) (commits : Instr.commits c) (consistent : s.staging.inconsistency = none) :
      Move c s (s.installTables.commitLamps s.working.settings)

/-- A run of moves. -/
def State.Moves (c : Instr) : State → State → Prop := Relation.ReflTransGen (State.Move c)

variable {c : Instr} {s t u : State}

theorem State.Move.run (h : State.Move c s t) : State.Moves c s t := Relation.ReflTransGen.single h

@[simp] theorem State.Moves.refl (s : State) : State.Moves c s s := Relation.ReflTransGen.refl

theorem State.Moves.trans (h : State.Moves c s t) (g : State.Moves c t u) : State.Moves c s u :=
  Relation.ReflTransGen.trans h g

theorem State.Moves.ite {p : Prop} [Decidable p] (yes : p → State.Moves c s t) (no : ¬ p → State.Moves c s u) :
    State.Moves c s (if p then t else u) := by
  split
  · next h => exact yes h
  · next h => exact no h

/-- A change of fields that no invariant reads. -/
theorem State.Moves.aside (h : t = t.withCore s) : State.Moves c s t := by
  rw [h]; exact (State.Move.aside s t).run

/-- What every move keeps, a run of moves keeps. -/
theorem State.Moves.keeps {P : State → Prop} (h : State.Moves c s t)
    (kept : ∀ a b, State.Move c a b → P a → P b) (holds : P s) : P t := by
  induction h with
  | refl => exact holds
  | tail _ move ih => exact kept _ _ move ih

/-! ### Ports and the responder -/

theorem State.Moves.changePort (s : State) (p : Port) {r : PortRecord} (next : (s.port p).Next r) :
    State.Moves c s (s.changePort p r) := by
  have placed : State.Moves c s (s.setPort p r) := (State.Move.port s p r next).run
  obtain same | ⟨-, running, announced⟩ := s.changePort_cases p r
  · rwa [same]
  · rw [announced]
    exact placed.trans (State.Move.event _ _ (by simpa using running)).run

theorem State.Moves.forward (s : State) (p : Port) (f : CanFrame) : State.Moves c s (s.forward p f) := by
  obtain ⟨room, joined⟩ | ⟨-, dropped⟩ := s.forward_cases p f
  · rw [joined]; exact (State.Move.port s p _ (.join _ room)).run
  · rw [dropped]; exact (State.Move.port s p _ .dropped).run

theorem State.Moves.unknownFrame (s : State) (p : Port) (f : CanFrame) : State.Moves c s (s.unknownFrame p f) := by
  have counted : State.Moves c s (s.setPort p (s.port p).sawUnknown) := (State.Move.port s p _ .sawUnknown).run
  unfold State.unknownFrame
  dsimp only
  split
  · exact counted.trans (State.Moves.forward _ _ _)
  · exact counted

theorem State.Moves.departedSent (s : State) (p : Port) : State.Moves c s (s.departedSent p) := by
  cases p with
  | control => exact State.Moves.refl s
  | vehicle => exact (State.Move.responder s (s.responder.afterSent _) id).run

theorem State.Moves.departedEmptied (s : State) (p : Port) (before : PortRecord) :
    State.Moves c s (s.departedEmptied p before) := by
  cases p with
  | control => exact State.Moves.refl s
  | vehicle =>
    exact State.Moves.ite (fun _ => (State.Move.responder s (s.responder.afterEmptied before.holdsOk) id).run)
      fun _ => State.Moves.refl s

theorem Responder.sound_afterDiscard (r : Responder) (wasOk : Bool) : (r.afterDiscard wasOk).sound := by
  simp [Responder.sound, Responder.afterDiscard]

theorem Responder.sound_finished (r : Responder) : r.finished.sound := by
  simp [Responder.sound, Responder.finished]

/-- A response that has no waiting part is sound without one. -/
theorem Responder.sound.withoutPart {r : Responder} (sound : r.sound) (w : Option TxFrame) (d : Bool) :
    Responder.sound { r with waiting := w, departed := d, partWaits := false } := by
  obtain ⟨sending, idle, -⟩ := sound
  exact ⟨sending, idle, by simp⟩

theorem Responder.sound.partJoined {r : Responder} (sound : r.sound) {x : FrozenCopy} (copy : r.copy = some x) :
    (r.partJoined x.partCount).sound := by
  obtain ⟨sending, idle, -⟩ := sound
  obtain ⟨more, next⟩ | ⟨-, ends⟩ := r.partJoined_cases x.partCount
  · rw [next]
    refine ⟨fun _ => ⟨x, copy, more⟩, fun rests => ?_, by simp⟩
    simp [(idle rests).1] at copy
  · rw [ends]; exact r.sound_finished

theorem FrozenCopy.partCount_pos (x : FrozenCopy) : 0 < x.partCount := by
  cases x with
  | record stored r => exact Nat.lt_of_lt_of_le (by decide) (Nat.le_add_right 3 _)
  | frameState r => exact Nat.succ_pos 4
  | signal x => exact Nat.succ_pos 1

theorem State.Moves.offerResponse (s : State) (f : TxFrame) : State.Moves c s (s.offerResponse f) := by
  obtain ⟨room, joins⟩ | ⟨-, -, waits⟩ | ⟨-, discarded⟩ := s.offerResponse_cases f
  · rw [joins]; exact (State.Move.port s .vehicle _ (.join f room)).run
  · rw [waits]; exact (State.Move.responder s _ fun sound => sound.withoutPart (some f) s.responder.departed).run
  · rw [discarded]; exact (State.Move.responder s _ fun _ => s.responder.sound_afterDiscard _).run

theorem State.Moves.partJoined (s : State) : State.Moves c s s.partJoined := by
  unfold State.partJoined
  split
  · next x copy => exact (State.Move.responder s _ fun sound => sound.partJoined copy).run
  · exact State.Moves.refl s

/-- The offer of a part by a responder that has begun to send it (R149 to R151). -/
theorem State.Moves.offerPartOf (s : State) (r : Responder) (f : TxFrame) (kept : s.responder.sound → r.sound)
    (sends : s.responder.sound → r.state = .sending) : State.Moves c s ((s.withResponder r).offerPartFrame f) := by
  have begun : State.Moves c s (s.withResponder r) := (State.Move.responder s r kept).run
  obtain ⟨room, joins⟩ | ⟨-, -, waits⟩ | ⟨-, discarded⟩ := (s.withResponder r).offerPartFrame_cases f
  · rw [joins]
    exact (begun.trans (State.Move.port _ .vehicle _ (.join f room)).run).trans (State.Moves.partJoined _)
  · rw [waits]
    refine (State.Move.responder s { r with waiting := some f, partWaits := true } fun sound => ?_).run
    obtain ⟨sending, idle, -⟩ := kept sound
    exact ⟨sending, idle, fun _ => ⟨sends sound, rfl⟩⟩
  · rw [discarded]
    exact begun.trans (State.Move.responder _ _ fun _ => Responder.sound_afterDiscard _ _).run

theorem State.Moves.reofferWaiting (s : State) : State.Moves c s s.reofferWaiting := by
  unfold State.reofferWaiting
  split
  · next f waiting =>
    refine State.Moves.ite (fun _ => State.Moves.ite (fun part => ?_) fun _ => ?_) fun _ => State.Moves.refl s
    · exact State.Moves.offerPartOf s _ f (fun sound => sound.withoutPart none false) fun sound => (sound.2.2 part).1
    · exact State.Moves.trans (State.Move.responder s _ fun sound => sound.withoutPart none false).run
        (State.Moves.offerResponse _ f)
  · exact State.Moves.refl s

theorem State.Moves.offerPart (s : State) : State.Moves c s s.offerPart := by
  unfold State.offerPart
  split
  · exact State.Moves.ite (fun sending => State.Moves.offerPartOf s _ _ id fun _ => sending.1)
      fun _ => State.Moves.refl s
  · exact State.Moves.refl s

theorem State.Moves.beginParts (s : State) (x : FrozenCopy) : State.Moves c s (s.beginParts x) := by
  refine State.Moves.offerPartOf s _ _ (fun sound => ⟨fun _ => ⟨x, rfl, x.partCount_pos⟩, by simp, fun part => ?_⟩)
    fun _ => rfl
  exact ⟨rfl, (sound.2.2 part).2⟩

theorem State.Moves.answer (s : State) (code : Byte) (r : ServiceResult) (rest : List Byte) :
    State.Moves c s (s.answer code r rest) :=
  State.Moves.offerResponse s _

/-! ### Received frames -/

theorem State.Moves.arrival (s : State) (i : Nat) (e : FrameEntry) (j : Judgement) (data : List Byte)
    (running : s.power = .running) (entry : i < s.working.frameList.length) :
    State.Moves c s (s.arrival i e j data) := by
  rw [State.arrival_eq]
  exact State.Moves.trans (State.Move.arrival s i e j data running entry).run
    (State.Move.event (s.arrivalWritten i e j data) _ running).run

theorem State.Moves.expire (s : State) (i : Nat) (running : s.power = .running) : State.Moves c s (s.expire i) :=
  State.Moves.trans (State.Move.expiry s i).run (State.Move.event (s.expired i) _ running).run

theorem State.isRunning_iff (s : State) : s.isRunning = true ↔ s.power = .running := by simp [State.isRunning]

theorem State.inAfterRun_iff (s : State) : s.inAfterRun = true ↔ s.power = .afterRun := by simp [State.inAfterRun]

theorem State.Moves.knownFrame (s : State) (p : Port) (i : Nat) (e : FrameEntry) (f : CanFrame)
    (entry : i < s.working.frameList.length) : State.Moves c s (s.knownFrame p i e f) := by
  refine State.Moves.ite (fun running => ?_) fun _ =>
    State.Moves.ite (fun _ => State.Moves.forward s _ _) fun _ => State.Moves.refl s
  have arrived := State.Moves.arrival (c := c) s i e (judge e (s.recordOf i) f.data) f.data
    (s.isRunning_iff.1 running) entry
  exact State.Moves.ite (fun _ => arrived.trans (State.Moves.forward _ _ _)) fun _ => arrived

theorem State.Moves.lookedUp (s : State) (p : Port) (f : CanFrame) : State.Moves c s (s.lookedUp p f) := by
  unfold State.lookedUp
  split
  · next i found =>
    have entry : i < s.working.frameList.length := (List.findIdx?_eq_some_iff_findIdx_eq.1 found).1
    split
    · exact State.Moves.knownFrame s p i _ f entry
    · exact State.Moves.unknownFrame s p f
  · exact State.Moves.unknownFrame s p f

/-! ### Service requests -/

theorem State.Moves.serveReadRecord (s : State) (slot : Byte) : State.Moves c s (s.serveReadRecord slot) := by
  refine State.Moves.ite (fun _ => ?_) fun _ => State.Moves.answer s _ _ _
  split
  · exact State.Moves.beginParts s _
  · exact State.Moves.beginParts s _
  · exact State.Moves.answer s _ _ _
  · exact State.Moves.answer s _ _ _

theorem State.Moves.serveReadFrameState (s : State) (i : Byte) : State.Moves c s (s.serveReadFrameState i) := by
  unfold State.serveReadFrameState
  split
  · exact State.Moves.beginParts s _
  · exact State.Moves.answer s _ _ _

theorem State.Moves.serveReadSignal (s : State) (i : Byte) : State.Moves c s (s.serveReadSignal i) := by
  unfold State.serveReadSignal
  split
  · exact State.Moves.beginParts s _
  · exact State.Moves.answer s _ _ _

theorem State.Moves.serveReadWatch (s : State) (i : Byte) : State.Moves c s (s.serveReadWatch i) := by
  unfold State.serveReadWatch
  split <;> exact State.Moves.answer s _ _ _

theorem State.Moves.serveReadFaultState (s : State) (i : Byte) : State.Moves c s (s.serveReadFaultState i) := by
  unfold State.serveReadFaultState
  split <;> exact State.Moves.answer s _ _ _

theorem State.Moves.serveReadTable (s : State) (table i field : Byte) :
    State.Moves c s (s.serveReadTable table i field) := by
  unfold State.serveReadTable
  split <;> exact State.Moves.answer s _ _ _

theorem State.Moves.withStaging (s : State) (x : Tables) : State.Moves c s { s with staging := x } :=
  State.Moves.aside rfl

theorem State.Moves.serveWriteTable (s : State) (table i field : Byte) (value : BitVec 32) :
    State.Moves c s (s.serveWriteTable table i field value) := by
  unfold State.serveWriteTable
  split
  · exact State.Moves.answer s _ _ _
  · exact State.Moves.answer s _ _ _
  · exact (State.Moves.withStaging s _).trans (State.Moves.answer _ _ _ _)

theorem State.Moves.serveRevert (s : State) : State.Moves c s s.serveRevert :=
  (State.Moves.withStaging s _).trans (State.Moves.answer _ _ _ _)

theorem State.Moves.serveClear (s : State) (scope : Byte) (code : BitVec 16) :
    State.Moves c s (s.serveClear scope code) := by
  unfold State.serveClear
  split
  · exact State.Moves.answer s _ _ _
  · next k _ =>
    refine State.Moves.ite (fun _ => State.Moves.answer s _ _ _) fun _ =>
      State.Moves.ite (fun _ => State.Moves.answer s _ _ _) fun quiet => ?_
    exact State.Moves.trans (State.Move.clear s k (Bool.eq_false_iff.2 quiet)).run (State.Moves.answer _ _ _ _)

theorem State.Moves.acceptCommit (s : State) (commits : Instr.commits c)
    (consistent : s.staging.inconsistency = none) : State.Moves c s s.acceptCommit := by
  have installed : State.Moves c s (s.installTables.commitLamps s.working.settings) :=
    (State.Move.install s commits consistent).run
  refine State.Moves.ite (fun running => installed.trans ?_) fun _ => installed
  exact (State.Move.event (s.installTables.commitLamps s.working.settings) _ ((State.isRunning_iff _).1 running)).run

/-- The commit check accepts consistent tables alone (R159). -/
theorem State.commitRefusal_none (s : State) (accepted : s.commitRefusal = none) : s.staging.inconsistency = none := by
  unfold State.commitRefusal at accepted
  split_ifs at accepted
  split at accepted
  · cases accepted
  · next h => exact h

theorem State.Moves.serveCommit (s : State) (commits : Instr.commits c) : State.Moves c s s.serveCommit := by
  unfold State.serveCommit
  split
  · exact State.Moves.answer s _ _ _
  · next accepted =>
    exact (State.Moves.acceptCommit s commits (s.commitRefusal_none accepted)).trans (State.Moves.answer _ _ _ _)

theorem State.Moves.serveRestart (s : State) : State.Moves c s s.serveRestart :=
  State.Moves.ite (fun _ => State.Moves.answer s _ _ _) fun _ =>
    State.Moves.ite (fun _ => State.Moves.answer s _ _ _) fun _ =>
      State.Moves.trans
        (State.Move.responder s { s.responder with restartPending := true, restartDue := false } id).run
        (State.Moves.offerResponse _ _)

theorem State.Moves.serve (s : State) (q : Request) (commits : q = .commit → Instr.commits c) :
    State.Moves c s (s.serve q) := by
  cases q with
  | readStatus page => exact State.Moves.answer s _ _ _
  | readRecord slot => exact State.Moves.serveReadRecord s slot
  | readFrameState i => exact State.Moves.serveReadFrameState s i
  | readSignal i => exact State.Moves.serveReadSignal s i
  | readWatch i => exact State.Moves.serveReadWatch s i
  | readFaultState i => exact State.Moves.serveReadFaultState s i
  | readTable t i f => exact State.Moves.serveReadTable s t i f
  | writeTable t i f v => exact State.Moves.serveWriteTable s t i f v
  | revert => exact State.Moves.serveRevert s
  | clear scope code => exact State.Moves.serveClear s scope code
  | commit => exact State.Moves.serveCommit s (commits rfl)
  | restart => exact State.Moves.serveRestart s
  | badRequest code => exact State.Moves.answer s _ _ _

theorem State.Moves.handle (s : State) (q : Request) (commits : q = .commit → Instr.commits c) :
    State.Moves c s (s.handle q) := by
  obtain ignored | busy | served := s.handle_cases q
  · rw [ignored]; exact State.Moves.refl s
  · rw [busy]; exact State.Moves.answer s _ _ _
  · rw [served]; exact State.Moves.serve s q commits

theorem State.Moves.sortFrame (s : State) (p : Port) (f : CanFrame)
    (commits : p = .vehicle → decodeRequest f.data = .commit → Instr.commits c) :
    State.Moves c s (s.sortFrame p f) :=
  State.Moves.ite (fun _ => State.Moves.unknownFrame s p f) fun _ =>
    State.Moves.ite (fun request => State.Moves.handle s _ (commits request.1)) fun _ =>
      State.Moves.ite (fun _ => (State.Move.clash s).run) fun _ => State.Moves.lookedUp s p f

/-! ### Slot writes and the end of AFTER_RUN -/

theorem State.Moves.standbyPastLimit (s : State) : State.Moves c s s.standbyPastLimit := by
  obtain ⟨afterRun, -, idle, -, rests⟩ | stays := s.standbyPastLimit_cases
  · rw [rests]; exact (State.Move.sleep s afterRun idle).run
  · rw [stays]; exact State.Moves.refl s

theorem State.Moves.writeBegin (s : State) :
    State.Moves c s (if s.canBeginWrite then
      match s.writeQueue with
      | head :: rest => s.beginHead head rest
      | [] => s
    else s) := by
  refine State.Moves.ite (fun begins => ?_) fun _ => State.Moves.refl s
  split
  · next head rest queue => exact (State.Move.beginWrite s head rest begins queue).run
  · exact State.Moves.refl s

theorem State.Moves.completeConfirm (s : State) : State.Moves c s s.completeConfirm := by
  unfold State.completeConfirm
  split
  · next w e rest write queue =>
    exact State.Moves.trans (State.Move.confirmed s w e rest write queue).run (State.Moves.standbyPastLimit _)
  · exact State.Moves.refl s

theorem State.Moves.completeHeal (s : State) : State.Moves c s s.completeHeal := by
  unfold State.completeHeal
  split
  · next i r k d code time rest write queue =>
    exact State.Moves.trans (State.Move.healed s ⟨i, some r, k, d⟩ r code time rest write rfl queue).run
      (State.Moves.standbyPastLimit _)
  · exact State.Moves.refl s

theorem State.Moves.completeAge (s : State) : State.Moves c s s.completeAge := by
  unfold State.completeAge
  split
  · next i r k d codes rest write queue =>
    exact State.Moves.trans (State.Move.aged s ⟨i, some r, k, d⟩ r codes rest write rfl queue).run
      (State.Moves.standbyPastLimit _)
  · exact State.Moves.refl s

theorem State.Moves.reachLimit (s : State) (afterRun : s.power = .afterRun) : State.Moves c s s.reachLimit := by
  refine State.Moves.trans ?_ (State.Moves.standbyPastLimit _)
  exact State.Moves.trans (State.Move.limit s _ afterRun).run (State.Moves.aside rfl)

theorem State.drained_cases (s : State) (drained : s.drained = true) : s.power = .afterRun ∧ s.write = none := by
  simp only [State.drained, Bool.and_eq_true, State.inAfterRun_iff, Option.isNone_iff_eq_none] at drained
  exact ⟨drained.1.1.1.1.1.1, drained.1.2⟩

theorem State.Moves.completeStore (s : State) (writing : s.store.state = .writing) :
    State.Moves c s s.completeStore := by
  refine State.Moves.trans ?_ (State.Moves.standbyPastLimit _)
  exact State.Moves.trans (State.Move.stored s writing).run (State.Moves.aside rfl)

/-! ### Reports and the status broadcast -/

theorem State.Moves.offerReport (s : State) : State.Moves c s s.offerReport := by
  unfold State.offerReport
  split
  · exact State.Moves.refl s
  · next e rest queue =>
    refine State.Moves.ite (fun room => ?_) fun _ => State.Moves.refl s
    exact State.Moves.trans (State.Move.sendReport s e rest queue).run
      (State.Move.port { s with reports := rest } .vehicle _ (.join ⟨s.reportFrame e, false⟩ room)).run

theorem State.Moves.beginSlot (s : State) : State.Moves c s s.beginSlot := by
  have begun : State.Moves c s { s with pacer := s.pacer.beginSlot } := State.Moves.aside rfl
  exact State.Moves.ite (fun _ => begun.trans (State.Moves.offerReport _)) fun _ => begun

theorem State.Moves.expireStatus (s : State) : State.Moves c s s.expireStatus := by
  have offered : State.Moves c s s.offerStatus :=
    State.Moves.ite (fun room => (State.Move.port s .vehicle _ (.join _ room)).run) fun _ => State.Moves.refl s
  exact offered.trans (State.Moves.aside rfl)

/-! ### Supply samples -/

theorem State.Moves.abortStore (s : State) (b : Band) : State.Moves c s (s.abortStore b) := by
  obtain ⟨-, -, aborted⟩ | ⟨-, kept⟩ := s.abortStore_cases b
  · rw [aborted]
    exact State.Moves.trans (State.Move.abort s).run (State.Moves.aside rfl)
  · rw [kept]; exact State.Moves.refl s

theorem State.Moves.announceBand (s : State) (old : Band) : State.Moves c s (s.announceBand old) :=
  State.Moves.ite (fun running => (State.Move.event s _ (s.isRunning_iff.1 running)).run) fun _ => State.Moves.refl s

theorem State.Moves.setBand (s : State) (b : Band) : State.Moves c s (s.setBand b) := by
  obtain ⟨-, stays⟩ | ⟨-, changes⟩ := s.setBand_cases b
  · rw [stays]; exact State.Moves.refl s
  · rw [changes]
    have placed : State.Moves c s { s with band := b } := State.Moves.aside rfl
    exact ((placed.trans (State.Moves.abortStore _ b)).trans (State.Moves.announceBand _ _)).trans
      (State.Moves.standbyPastLimit _)

theorem State.Moves.evaluateSupply (s : State) (running : s.power = .running) :
    State.Moves c s s.evaluateSupply := by
  have counted : State.Moves c s { s with sampleCount := 0 } := State.Moves.aside rfl
  exact counted.trans (State.Move.event { s with sampleCount := 0 } _ running).run

theorem State.Moves.countSample (s : State) : State.Moves c s s.countSample := by
  obtain ⟨-, stays⟩ | ⟨-, -, counts⟩ | ⟨running, -, evaluates⟩ := s.countSample_cases
  · rw [stays]; exact State.Moves.refl s
  · rw [counts]; exact State.Moves.aside rfl
  · rw [evaluates]; exact State.Moves.evaluateSupply s running

theorem State.Moves.readBattery (s : State) (v : Nat) (other : c ≠ .startup) :
    State.Moves c s (s.readBattery v) := by
  have read : State.Moves c s (if v < 30 then s.loseRetained else s) :=
    State.Moves.ite (fun _ => (State.Move.lose s other).run) fun _ => State.Moves.refl s
  exact read.trans (State.Moves.aside rfl)

theorem State.Moves.takeSample (s : State) (v : Nat) (other : c ≠ .startup) :
    State.Moves c s (s.takeSample v) := by
  have read := State.Moves.readBattery s v other
  obtain ⟨-, held⟩ | ⟨-, cut⟩ | ⟨b, -, -, sampled⟩ := s.takeSample_cases v
  · rwa [held]
  · rw [cut]; exact read.trans (State.Move.reset _ _).run
  · rw [sampled]; exact (read.trans (State.Moves.setBand _ b)).trans (State.Moves.countSample _)

/-! ### Starts and rides -/

theorem State.Moves.settleTimebase (s : State) : State.Moves c s s.settleTimebase :=
  State.Moves.ite (fun _ => State.Moves.aside rfl) fun _ => State.Moves.aside rfl

theorem State.Moves.startRide (s u : State) (r : Retained) (bulb : Option Nat)
    (boards : (s.power = .afterRun ∧ u = s) ∨ s.joins u)
    (opens : r = s.retained.resumed ∨ ∃ n, r = s.retained.newRide n) :
    State.Moves c s ((u.withRetained r).startRide bulb) :=
  State.Moves.trans (State.Move.ride s u r bulb boards opens).run
    (State.Move.event ((u.withRetained r).rideBegun bulb) _ rfl).run

/-- The ride decision sets the stage at every outcome, so it is the same whatever the stage was (R168). -/
theorem State.Moves.rideDecision (s : State) (on : Bool) (starting : s.power = .starting) :
    State.Moves c s.atKey (s.rideDecision on) := by
  obtain ⟨t, settled, decision⟩ := s.rideDecision_cases on
  have starts : t.power = .starting := by
    obtain rfl | rfl := settled
    · exact starting
    · simpa using starting
  have run : State.Moves c s.atKey t.atKey := by
    obtain rfl | rfl := settled
    · exact State.Moves.refl _
    · unfold State.settleTimebase
      split <;> exact State.Moves.aside rfl
  have joins : t.atKey.joins t.atKey.joinBuses :=
    ⟨starts, rfl, rfl⟩
  refine run.trans ?_
  obtain resumes | opens | ends | sleeps := decision
  · rw [resumes]
    exact State.Moves.startRide t.atKey t.atKey.joinBuses _ none (.inr joins) (.inl rfl)
  · rw [opens]
    exact State.Moves.startRide t.atKey t.atKey.joinBuses _ (bulbCycles t.working.settings.bulbCheck)
      (.inr joins) (.inr ⟨t.working.settings.faultCount, rfl⟩)
  · rw [ends]
    exact (State.Move.rideEnd t.atKey t.atKey.joinBuses (.inr joins)).run
  · rw [sleeps]
    exact (State.Move.rest t.atKey starts rfl).run

/-- The ride decision of a state that waits for the KEY line (R167, R168). -/
theorem State.Moves.rideDecision_of_waiting (s : State) (on : Bool) (starting : s.power = .starting)
    (waits : s.stage = .waitKey) : State.Moves c s (s.rideDecision on) := by
  have same : s.atKey = s := by rw [State.atKey, ← waits]
  have run := State.Moves.rideDecision (c := c) s on starting
  rwa [same] at run

theorem State.canStart_starting (s : State) (can : s.canStart = true) : s.power = .starting := by
  simp only [State.canStart, Bool.and_eq_true, beq_iff_eq] at can
  exact can.1

/-- Steps 1 to 5 of STARTING: the module is set up and waits for the KEY line, or decides at once (R167). -/
theorem State.Moves.finishStart (s : State) (startup : c = .startup) (starting : s.power = .starting) :
    State.Moves c s s.setUp.finishStart := by
  have waits : State.Moves c s s.setUp.atKey := (State.Move.setUp s startup starting).run
  unfold State.finishStart
  split
  · next on settled => exact waits.trans (State.Moves.rideDecision s.setUp on starting)
  · exact waits

theorem State.Moves.startUp (s : State) (startup : c = .startup) (starting : s.power = .starting) :
    State.Moves c s s.startUp :=
  State.Moves.ite (fun _ => (State.Move.reset s _).run) fun _ => State.Moves.finishStart s startup starting

theorem State.Moves.settleOn (s : State) : State.Moves c s s.settleOn := by
  have settled : State.Moves c s { s with keySettled := some true } := State.Moves.aside rfl
  refine settled.trans ?_
  unfold State.settleOn
  dsimp only
  split
  · next starting waits => exact State.Moves.rideDecision_of_waiting _ true starting waits
  · exact State.Moves.refl _
  · exact State.Moves.refl _
  · next _ afterRun => exact State.Moves.startRide _ _ _ _ (.inl ⟨afterRun, rfl⟩) (.inr ⟨_, rfl⟩)
  · next _ standby => exact (State.Move.wake { s with keySettled := some true } standby).run

theorem State.Moves.settleOff (s : State) : State.Moves c s s.settleOff := by
  have settled : State.Moves c s { s with keySettled := some false } := State.Moves.aside rfl
  refine settled.trans ?_
  unfold State.settleOff
  dsimp only
  split
  · next starting waits => exact State.Moves.rideDecision_of_waiting _ false starting waits
  · exact State.Moves.refl _
  · next _ running => exact (State.Move.rideEnd { s with keySettled := some false } _ (.inl ⟨running, rfl⟩)).run
  · exact State.Moves.refl _
  · exact State.Moves.refl _

/-! ### Every command -/

theorem State.Moves.powerOn (s : State) (other : c ≠ .startup) : State.Moves c s s.powerOn := by
  refine State.Moves.ite (fun _ => State.Moves.refl s) fun _ => ?_
  have lost : State.Moves c s { s.loseRetained with battery := 30 } :=
    State.Moves.trans (State.Move.lose s other).run (State.Moves.aside rfl)
  exact lost.trans (State.Move.reset _ _).run

/-- What a command does is a run of moves. -/
theorem State.moves_of_exec (run : exec c s = .next t) : State.Moves c s t := by
  suffices answered : ∃ u, exec c s = .next u ∧ State.Moves c s u by
    obtain ⟨u, answer, moves⟩ := answered
    obtain rfl := Host.Outcome.next.inj (answer.symm.trans run)
    exact moves
  have stays : State.Moves c s s := State.Moves.refl s
  cases c with
  | frameReceived p f =>
    refine ⟨_, rfl, State.Moves.ite (fun received => ?_) fun _ => stays⟩
    have live := (Bool.and_eq_true_iff.1 received).2
    refine (State.Moves.changePort s p (.received live)).trans (State.Moves.sortFrame _ p _ fun vehicle commit => ?_)
    exact .inr ⟨f, by rw [vehicle], commit⟩
  | receiveError p =>
    exact ⟨_, rfl, State.Moves.ite (fun live => State.Moves.changePort s p (.receiveFailed live)) fun _ => stays⟩
  | lostArbitration p => exact ⟨_, rfl, stays⟩
  | transmitSuccess p =>
    refine ⟨_, rfl, State.Moves.ite (fun offering => ?_) fun _ => stays⟩
    have live := (Bool.and_eq_true_iff.1 offering).1
    exact (State.Moves.changePort s p (.sent live)).trans (State.Moves.departedSent _ p)
  | transmitError p =>
    refine ⟨_, rfl, State.Moves.ite (fun offering => ?_) fun _ => stays⟩
    have live := (Bool.and_eq_true_iff.1 offering).1
    exact (State.Moves.changePort s p (.sendFailed live)).trans (State.Moves.departedEmptied _ p _)
  | recoverySequence p =>
    exact ⟨_, rfl, State.Moves.ite (fun busOff => State.Moves.changePort s p (.recovered busOff)) fun _ => stays⟩
  | waitingFrameReoffer => exact ⟨_, rfl, State.Moves.reofferWaiting s⟩
  | responsePartOffer => exact ⟨_, rfl, State.Moves.offerPart s⟩
  | frameTimerExpiry i =>
    refine ⟨_, rfl, State.Moves.ite (fun due => ?_) fun _ => stays⟩
    exact State.Moves.expire s i (s.isRunning_iff.1 (Bool.and_eq_true_iff.1 due).1)
  | writeBegin => exact ⟨_, rfl, State.Moves.writeBegin s⟩
  | confirmWriteComplete => exact ⟨_, rfl, State.Moves.completeConfirm s⟩
  | healWriteComplete => exact ⟨_, rfl, State.Moves.completeHeal s⟩
  | ageWriteComplete => exact ⟨_, rfl, State.Moves.completeAge s⟩
  | supplySample v => exact ⟨_, rfl, State.Moves.takeSample s v (by simp)⟩
  | supplyEvaluation =>
    exact ⟨_, rfl, State.Moves.ite (fun _ => State.Moves.takeSample s s.battery (by simp)) fun _ => stays⟩
  | powerOn => exact ⟨_, rfl, State.Moves.powerOn s (by simp)⟩
  | startup =>
    exact ⟨_, rfl, State.Moves.ite (fun can => State.Moves.startUp s rfl (s.canStart_starting can)) fun _ => stays⟩
  | keyLevelChange on => exact ⟨_, rfl, State.Moves.ite (fun _ => stays) fun _ => State.Moves.aside rfl⟩
  | keyOnSettled => exact ⟨_, rfl, State.Moves.ite (fun _ => State.Moves.settleOn s) fun _ => stays⟩
  | keyOffSettled => exact ⟨_, rfl, State.Moves.ite (fun _ => State.Moves.settleOff s) fun _ => stays⟩
  | afterRunEnd =>
    refine ⟨_, rfl, State.Moves.ite (fun drained => ?_) fun _ => stays⟩
    obtain ⟨afterRun, idle⟩ := s.drained_cases drained
    exact (State.Move.sleep s afterRun idle).run
  | afterRunLimit =>
    refine ⟨_, rfl, State.Moves.ite (fun reached => ?_) fun _ => stays⟩
    exact State.Moves.reachLimit s (s.inAfterRun_iff.1 (Bool.and_eq_true_iff.1 reached).1)
  | lampStep => exact ⟨_, rfl, State.Moves.ite (fun _ => (State.Move.lampStep s).run) fun _ => stays⟩
  | cycleBoundary =>
    refine ⟨_, rfl, State.Moves.ite (fun due => ?_) fun _ => stays⟩
    exact (State.Move.boundary s (s.isRunning_iff.1 (Bool.and_eq_true_iff.1 due).1)).run
  | windowBegin => exact ⟨_, rfl, State.Moves.ite (fun _ => State.Moves.aside rfl) fun _ => stays⟩
  | pacerSlot => exact ⟨_, rfl, State.Moves.ite (fun _ => State.Moves.beginSlot s) fun _ => stays⟩
  | statusExpiry => exact ⟨_, rfl, State.Moves.ite (fun _ => State.Moves.expireStatus s) fun _ => stays⟩
  | crystalStop => exact ⟨_, rfl, State.Moves.aside rfl⟩
  | storeWriteComplete =>
    exact ⟨_, rfl, State.Moves.ite (fun writing => State.Moves.completeStore s writing) fun _ => stays⟩
  | readStatus _ | readRecord _ | readFrameState _ | readSignal _ | readWatch _ | readFaultState _
  | readTable _ _ _ | writeTable _ _ _ _ | revert | clear _ _ | restart | badRequest _ =>
    exact ⟨_, rfl, State.Moves.handle s _ (by simp)⟩
  | commit => exact ⟨_, rfl, State.Moves.handle s _ fun _ => .inl rfl⟩
  | serviceRestart => exact ⟨_, rfl, State.Moves.ite (fun _ => (State.Move.reset s _).run) fun _ => stays⟩
  | supplyCollapse =>
    exact ⟨_, rfl, State.Moves.trans (State.Move.lose s (by simp)).run (State.Moves.aside rfl)⟩

end Moves

end Sys2Proof.Machine

namespace Sys2Proof.Machine

/-! ## What the compound moves come to -/

section CompoundMoves

variable (s : State)

theorem State.advanceStep_cases :
    ∃ k due, k < 16 ∧ s.advanceStep = { s with stepPos := k, boundaryDue := due, lampElapsed := 0 } := by
  unfold State.advanceStep
  split
  · next more => exact ⟨_, _, more, rfl⟩
  · exact ⟨0, true, by decide, rfl⟩

/-- A cycle boundary moves the bulb check on or ends it, and each lamp takes up a pattern: in its mode, or at the end of
the bulb check in the mode that R125 then gives (R128, R129). -/
theorem State.crossBoundary_cases :
    ∃ k engine brake, s.crossBoundary = { s with
      boundaryDue := false, bulbCheck := k, engineLamp := engine, brakeLamp := brake }
    ∧ ((k.isSome = s.bulbCheck.isSome ∧ engine.mode = s.engineLamp.mode ∧ brake.mode = s.brakeLamp.mode)
      ∨ (engine.mode = State.modeOf { s with bulbCheck := k } .engine
        ∧ brake.mode = State.modeOf { s with bulbCheck := k } .brake)) := by
  unfold State.crossBoundary
  split
  · exact ⟨s.bulbCheck, _, _, rfl, .inl ⟨rfl, rfl, rfl⟩⟩
  · next n checking =>
    split
    · exact ⟨none, _, _, rfl, .inr ⟨rfl, rfl⟩⟩
    · exact ⟨some (n - 1), _, _, rfl, .inl ⟨by rw [checking]; rfl, rfl, rfl⟩⟩

/-- An AGE write erases the record with its AGED event, or leaves it with a clean ride more (R113, R114). -/
theorem State.completeAgeWrite_cases (i : Nat) (r : Record) (q : List WriteEntry) :
    s.completeAgeWrite i r q
      = (s.finishWrite i .empty q).report (freshReport r.code r.system r.severity .aged s.now)
    ∨ s.completeAgeWrite i r q = s.finishWrite i (.stored r.aged) q := by
  unfold State.completeAgeWrite
  dsimp only
  split
  · exact .inl rfl
  · exact .inr rfl

end CompoundMoves

/-! ## The queue of waiting commands (log entries 3 and 34) -/

/-- No move touches the queue of waiting commands. -/
theorem State.Move.pending {c : Instr} {s t : State} (move : State.Move c s t) : t.pending = s.pending := by
  cases move with
  | port p r next => exact s.setPort_pending p r
  | beginWrite head rest begins queue =>
    obtain ⟨i, c, b, h⟩ | h | ⟨q, h⟩ := s.beginHead_cases head rest <;> rw [h] <;> rfl
  | aged w r codes rest write base queue =>
    obtain h | h := s.completeAgeWrite_cases w.slot r (dropAgeCode codes rest) <;> rw [h] <;> rfl
  | lampStep => obtain ⟨k, due, -, h⟩ := s.advanceStep_cases; rw [h]
  | boundary running => obtain ⟨k, e, b, h, -⟩ := s.crossBoundary_cases; rw [h]
  | ride u r bulb boards opens => obtain ⟨-, rfl⟩ | ⟨-, -, rfl⟩ := boards <;> rfl
  | rideEnd u boards => obtain ⟨-, rfl⟩ | ⟨-, -, rfl⟩ := boards <;> rfl
  | _ => rfl

/-- Settles O4: no move touches the queue of waiting commands. -/
theorem commandsLeaveTheQueueAlone : Obligations.CommandsLeaveTheQueueAlone := by
  intro c s t run
  exact (State.moves_of_exec run).keeps (P := fun u => u.pending = s.pending)
    (fun _ _ move same => move.pending.trans same) rfl

/-! ## The ride number (R170) -/

/-- The ride number of retained memory, if in its range, has not fallen and is still in its range. -/
def Retained.rises (r q : Retained) : Prop :=
  r.rideNumber ≤ 65535 → r.rideNumber ≤ q.rideNumber ∧ q.rideNumber ≤ 65535

theorem Retained.rises_of_eq {r q : Retained} (same : q.rideNumber = r.rideNumber) : r.rises q :=
  fun bound => ⟨same.ge, same.trans_le bound⟩

theorem Retained.rises.trans {r p q : Retained} (h : r.rises p) (g : p.rises q) : r.rises q :=
  fun bound => ⟨(h bound).1.trans (g (h bound).2).1, (g (h bound).2).2⟩

theorem Retained.rises_newRide (r : Retained) (n : Nat) : r.rises (r.newRide n) := by
  intro bound
  have number : (r.newRide n).rideNumber = min 65535 (r.rideNumber + 1) := rfl
  omega

theorem State.startRetained_of_mark (s : State) (mark : s.retained.mark = true) :
    s.startRetained.mark = true ∧ s.startRetained.rideNumber = s.retained.rideNumber := by
  unfold State.startRetained
  rw [if_pos mark]
  split <;> exact ⟨mark, rfl⟩

/-- What a move makes of the retention mark and the ride number: start-up alone sets the mark and never takes it away,
and while it stands the ride number does not fall (R166, R170). -/
def Retained.follows (c : Instr) (r q : Retained) : Prop :=
  (c ≠ .startup → q.mark = true → r.mark = true) ∧ (c = .startup → r.mark = true → q.mark = true)
  ∧ (r.mark = true → q.mark = true → r.rises q)

theorem Retained.follows_of_eq {c : Instr} {r q : Retained} (mark : q.mark = r.mark) (rises : r.rises q) :
    Retained.follows c r q :=
  ⟨fun _ h => mark ▸ h, fun _ h => mark ▸ h, fun _ _ => rises⟩

theorem Retained.follows_refl (c : Instr) (r : Retained) : Retained.follows c r r :=
  Retained.follows_of_eq rfl (Retained.rises_of_eq rfl)

theorem Retained.follows.trans {c : Instr} {r p q : Retained} (h : Retained.follows c r p)
    (g : Retained.follows c p q) : Retained.follows c r q := by
  obtain ⟨kept, stands, rises⟩ := h
  obtain ⟨kept', stands', rises'⟩ := g
  refine ⟨fun other mark => kept other (kept' other mark), fun start mark => stands' start (stands start mark),
    fun before after => ?_⟩
  have between : p.mark = true := by
    by_cases start : c = .startup
    · exact stands start before
    · exact kept' start after
  exact (rises before between).trans (rises' between after)

theorem State.Move.follows {c : Instr} {s t : State} (move : State.Move c s t) :
    Retained.follows c s.retained t.retained := by
  have same : ∀ {q : Retained}, q.mark = s.retained.mark → q.rideNumber = s.retained.rideNumber →
      Retained.follows c s.retained q :=
    fun mark number => Retained.follows_of_eq mark (Retained.rises_of_eq number)
  cases move with
  | port p r next => rw [State.setPort_retained]; exact same rfl rfl
  | beginWrite head rest begins queue =>
    obtain ⟨i, c, b, h⟩ | h | ⟨q, h⟩ := s.beginHead_cases head rest <;> rw [h] <;> exact same rfl rfl
  | aged w r codes rest write base queue =>
    obtain h | h := s.completeAgeWrite_cases w.slot r (dropAgeCode codes rest) <;> rw [h] <;> exact same rfl rfl
  | lampStep => obtain ⟨k, due, -, h⟩ := s.advanceStep_cases; rw [h]; exact same rfl rfl
  | boundary running => obtain ⟨k, e, b, h, -⟩ := s.crossBoundary_cases; rw [h]; exact same rfl rfl
  | lose other => exact ⟨fun _ => nofun, fun start => absurd start other, fun _ => nofun⟩
  | setUp startup starting =>
    refine ⟨fun other => absurd startup other, fun _ mark => (s.startRetained_of_mark mark).1, fun mark _ => ?_⟩
    exact Retained.rises_of_eq (s.startRetained_of_mark mark).2
  | ride u r bulb boards opens =>
    obtain rfl | ⟨n, rfl⟩ := opens
    · exact same rfl rfl
    · exact Retained.follows_of_eq rfl (s.retained.rises_newRide n)
  | rideEnd u boards => obtain ⟨-, rfl⟩ | ⟨-, -, rfl⟩ := boards <;> exact same rfl rfl
  | _ => exact same rfl rfl

/-- Settles O34: from a state to any that a run of moves leads to, the mark and the ride number follow. -/
theorem rideNumberNeverDecreases : Obligations.RideNumberNeverDecreases := by
  intro c s t before bound run after
  have follows := (State.moves_of_exec run).keeps (P := fun u => Retained.follows c s.retained u.retained)
    (fun _ _ move follows => follows.trans move.follows) (Retained.follows_refl c _)
  exact follows.2.2 before after bound

/-! ## The responder (R149 to R151) -/

theorem Responder.sound_initial : Responder.initial.sound := by
  simp [Responder.sound, Responder.initial]

theorem State.Move.responderSound {c : Instr} {s t : State} (move : State.Move c s t) (sound : s.responder.sound) :
    t.responder.sound := by
  cases move with
  | port p r next => rwa [State.setPort_responder]
  | responder r kept => exact kept sound
  | beginWrite head rest begins queue =>
    obtain ⟨i, c, b, h⟩ | h | ⟨q, h⟩ := s.beginHead_cases head rest <;> rw [h] <;> exact sound
  | aged w r codes rest write base queue =>
    obtain h | h := s.completeAgeWrite_cases w.slot r (dropAgeCode codes rest) <;> rw [h] <;> exact sound
  | lampStep => obtain ⟨k, due, -, h⟩ := s.advanceStep_cases; rwa [h]
  | boundary running => obtain ⟨k, e, b, h, -⟩ := s.crossBoundary_cases; rwa [h]
  | sleep | reset | wake => exact Responder.sound_initial
  | ride u r bulb boards opens => obtain ⟨-, rfl⟩ | ⟨-, -, rfl⟩ := boards <;> exact sound
  | rideEnd u boards => obtain ⟨-, rfl⟩ | ⟨-, -, rfl⟩ := boards <;> exact sound
  | _ => exact sound

/-! ## Ports (R1 to R6, R15 to R17) -/

section Ports

variable {p r : PortRecord}

/-- The state that error counts in their range give a live port agrees with them (R3). -/
theorem PortRecord.sound_withErrors (queue : p.queue.length ≤ 8) (recovery : p.recovery ≤ 127)
    (drop : p.forwardDrop ≤ 255) (unknown : p.unknown ≤ 255) (live : p.live = true) {tx rx : Nat} (txBound : tx ≤ 255)
    (rxBound : rx ≤ 255) : (p.withErrors tx rx).sound := by
  have state := errorState_live p.state tx rx ((PortRecord.live_iff p).1 live)
  unfold PortRecord.withErrors
  rw [state]
  by_cases passive : 128 ≤ tx ∨ 128 ≤ rx
  · rw [if_pos passive]
    exact ⟨queue, txBound, rxBound, recovery, drop, unknown, nofun, nofun, nofun, fun _ => passive⟩
  · rw [if_neg passive]
    have active : tx < 128 ∧ rx < 128 := by omega
    exact ⟨queue, txBound, rxBound, recovery, drop, unknown, nofun, nofun, fun _ => active, nofun⟩

theorem PortRecord.sound_counts (sound : p.sound) {drop unknown : Nat} (dropBound : drop ≤ 255)
    (unknownBound : unknown ≤ 255) : PortRecord.sound { p with forwardDrop := drop, unknown := unknown } := by
  obtain ⟨queue, tx, rx, recovery, -, -, states⟩ := sound
  exact ⟨queue, tx, rx, recovery, dropBound, unknownBound, states⟩

theorem PortRecord.sound_fresh (rate : Nat) : (PortRecord.fresh rate).sound := by
  simp [PortRecord.sound, PortRecord.fresh]

theorem PortRecord.sound.toOff (sound : p.sound) : p.toOff.sound := by
  obtain ⟨-, -, -, -, drop, unknown, -⟩ := sound
  simp [PortRecord.sound, PortRecord.toOff, drop, unknown]

theorem PortRecord.sound.zeroCounts (sound : p.sound) : p.zeroCounts.sound :=
  PortRecord.sound_counts sound (Nat.zero_le _) (Nat.zero_le _)

/-- A port that is OFF joins its bus with its counts at 0 (R16). -/
theorem PortRecord.sound.joinBus (sound : p.sound) (off : p.state = .off) : p.joinBus.sound := by
  obtain ⟨-, -, -, -, drop, unknown, quiet, -⟩ := sound
  obtain ⟨queue, tx, rx, recovery⟩ := quiet off
  simp [PortRecord.sound, PortRecord.joinBus, queue, tx, rx, recovery, drop, unknown]

/-- Whatever happens to a port's record, it stays sound. -/
theorem PortRecord.Next.sound (next : p.Next r) (sound : p.sound) : r.sound := by
  have keep := sound
  obtain ⟨queue, tx, rx, recovery, drop, unknown, off, busOff, active, passive⟩ := sound
  cases next with
  | received live => exact PortRecord.sound_withErrors queue recovery drop unknown live tx (by omega)
  | receiveFailed live =>
    exact PortRecord.sound_withErrors queue recovery drop unknown live tx (saturate_le _ _ _)
  | sent live =>
    have shorter : p.queue.tail.length ≤ 8 := by rw [List.length_tail]; omega
    exact PortRecord.sound_withErrors (p := { p with queue := p.queue.tail }) shorter recovery drop unknown live
      (by omega) rx
  | sendFailed live =>
    unfold PortRecord.sendFailed
    split
    · exact ⟨Nat.zero_le _, tx, rx, Nat.zero_le _, saturate_le _ _ _, unknown, nofun, fun _ => rfl, nofun, nofun⟩
    · exact PortRecord.sound_withErrors queue recovery drop unknown live (by omega) rx
  | recovered bus =>
    unfold PortRecord.recovered
    split
    · exact ⟨queue, Nat.zero_le _, Nat.zero_le _, Nat.zero_le _, drop, unknown, nofun, nofun,
        fun _ => ⟨Nat.zero_lt_succ 127, Nat.zero_lt_succ 127⟩, nofun⟩
    · have counted : p.recovery + 1 ≤ 127 := by omega
      exact ⟨queue, tx, rx, counted, drop, unknown, fun h => by simp [bus] at h, busOff, active, passive⟩
  | dropped => exact PortRecord.sound_counts keep (saturate_le _ _ _) unknown
  | sawUnknown => exact PortRecord.sound_counts keep drop (saturate_le _ _ _)
  | join f room =>
    obtain ⟨live, space⟩ := (PortRecord.hasRoom_iff p).1 room
    have longer : (p.queue ++ [f]).length ≤ 8 := by rw [List.length_append]; exact space
    refine ⟨longer, tx, rx, recovery, drop, unknown, fun h => ?_, fun h => ?_, active, passive⟩
    · obtain g | g := live <;> exact absurd (g.symm.trans h) (by decide)
    · obtain g | g := live <;> exact absurd (g.symm.trans h) (by decide)

theorem PortRecord.withErrors_state_ne_off (live : p.live = true) (tx rx : Nat) :
    (p.withErrors tx rx).state ≠ .off ∧ p.state ≠ .off := by
  have states := (PortRecord.live_iff p).1 live
  have given := errorState_live p.state tx rx states
  unfold PortRecord.withErrors
  rw [given]
  constructor
  · split <;> exact nofun
  · obtain h | h := states <;> rw [h] <;> decide

/-- A port becomes and leaves OFF with the power state alone (R16, R17). -/
theorem PortRecord.Next.off_iff (next : p.Next r) : r.state = .off ↔ p.state = .off := by
  have errors : ∀ {q : PortRecord} {tx rx : Nat}, q.live = true → q.state = p.state →
      ((q.withErrors tx rx).state = .off ↔ p.state = .off) := by
    intro q tx rx live same
    obtain ⟨after, before⟩ := PortRecord.withErrors_state_ne_off live tx rx
    exact iff_of_false after (same ▸ before)
  cases next with
  | received live | receiveFailed live => exact errors live rfl
  | sent live => exact errors (q := { p with queue := p.queue.tail }) live rfl
  | sendFailed live =>
    unfold PortRecord.sendFailed
    split
    · exact iff_of_false (by simp [PortRecord.intoBusOff]) (PortRecord.withErrors_state_ne_off live 0 0).2
    · exact errors live rfl
  | recovered bus =>
    unfold PortRecord.recovered
    split
    · simp [bus]
    · exact Iff.rfl
  | dropped | sawUnknown | join => exact Iff.rfl

end Ports

theorem State.portsSound.setPort {s : State} (sound : s.portsSound) (p : Port) {r : PortRecord}
    (next : (s.port p).Next r) : (s.setPort p r).portsSound := by
  obtain ⟨control, vehicle, clashes, controlOff, vehicleOff⟩ := sound
  cases p with
  | control => exact ⟨next.sound control, vehicle, clashes, controlOff.trans next.off_iff.symm, vehicleOff⟩
  | vehicle => exact ⟨control, next.sound vehicle, clashes, controlOff, vehicleOff.trans next.off_iff.symm⟩

/-- At a ride start or end the ports are on their buses, joined by the ride decision or since the ride before (R16,
R170). -/
theorem State.portsSound.boarded {s u : State} (sound : s.portsSound) {q : PowerState}
    (awake : q ≠ .starting ∧ q ≠ .standby) (boards : (s.power = q ∧ u = s) ∨ s.joins u) :
    u.control.sound ∧ u.vehicle.sound ∧ u.clashes ≤ 255 ∧ u.control.state ≠ .off ∧ u.vehicle.state ≠ .off := by
  obtain ⟨control, vehicle, clashes, controlOff, vehicleOff⟩ := sound
  obtain ⟨power, rfl⟩ | ⟨starting, -, rfl⟩ := boards
  · have on : ¬ (u.power = .starting ∨ u.power = .standby) := by rw [power]; exact not_or.2 awake
    exact ⟨control, vehicle, clashes, mt controlOff.2 on, mt vehicleOff.2 on⟩
  · exact ⟨control.joinBus (controlOff.1 (.inl starting)), vehicle.joinBus (vehicleOff.1 (.inl starting)), clashes,
      nofun, nofun⟩

theorem State.Move.portsSound {c : Instr} {s t : State} (move : State.Move c s t) (sound : s.portsSound) :
    t.portsSound := by
  have ⟨control, vehicle, clashes, controlOff, vehicleOff⟩ := sound
  cases move with
  | port p r next => exact sound.setPort p next
  | clash => exact ⟨control, vehicle, saturate_le _ _ _, controlOff, vehicleOff⟩
  | beginWrite head rest begins queue =>
    obtain ⟨i, c, b, h⟩ | h | ⟨q, h⟩ := s.beginHead_cases head rest <;> rw [h] <;> exact sound
  | aged w r codes rest write base queue =>
    obtain h | h := s.completeAgeWrite_cases w.slot r (dropAgeCode codes rest) <;> rw [h] <;> exact sound
  | lampStep => obtain ⟨k, due, -, h⟩ := s.advanceStep_cases; rw [h]; exact sound
  | boundary running => obtain ⟨k, e, b, h, -⟩ := s.crossBoundary_cases; rw [h]; exact sound
  | sleep afterRun idle =>
    exact ⟨control.toOff, vehicle.toOff, clashes, ⟨fun _ => rfl, fun _ => .inr rfl⟩, ⟨fun _ => rfl, fun _ => .inr rfl⟩⟩
  | reset | wake =>
    exact ⟨PortRecord.sound_fresh _, PortRecord.sound_fresh _, Nat.zero_le _,
      ⟨fun _ => rfl, fun _ => .inl rfl⟩, ⟨fun _ => rfl, fun _ => .inl rfl⟩⟩
  | setUp startup starting =>
    exact ⟨PortRecord.sound_fresh _, PortRecord.sound_fresh _, clashes,
      ⟨fun _ => rfl, fun _ => .inl starting⟩, ⟨fun _ => rfl, fun _ => .inl starting⟩⟩
  | ride u r bulb boards opens =>
    obtain ⟨control, vehicle, -, controlOn, vehicleOn⟩ := sound.boarded (by decide) boards
    exact ⟨control.zeroCounts, vehicle.zeroCounts, Nat.zero_le _, iff_of_false nofun controlOn,
      iff_of_false nofun vehicleOn⟩
  | rideEnd u boards =>
    obtain ⟨control, vehicle, clashes, controlOn, vehicleOn⟩ := sound.boarded (by decide) boards
    exact ⟨control, vehicle, clashes, iff_of_false nofun controlOn, iff_of_false nofun vehicleOn⟩
  | rest starting waits =>
    exact ⟨control, vehicle, clashes, iff_of_true (.inr rfl) (controlOff.1 (.inl starting)),
      iff_of_true (.inr rfl) (vehicleOff.1 (.inl starting))⟩
  | _ => exact sound

/-- Settles O31: every move keeps both ports sound. -/
theorem portsStaySound : Obligations.PortsStaySound := by
  intro c s t sound run
  exact (State.moves_of_exec run).keeps (fun _ _ move => move.portsSound) sound

end Sys2Proof.Machine

namespace Sys2Proof.Machine

/-! ## The report queue (R133 to R136) -/

section ReportQueue

variable {n : ReportEntry} {q old new : List ReportEntry} {dropped : Nat}

/-- A report stands in a queue behind every entry of equal or higher severity and before every lower one (R134). -/
def ReportEntry.placed (n : ReportEntry) (old new : List ReportEntry) : Prop :=
  ∃ a b, old = a ++ b ∧ new = a ++ n :: b ∧ (∀ x ∈ a, n.severity ≤ x.severity) ∧ ∀ x ∈ b, x.severity < n.severity

/-- Severities do not rise along a queue (R134). -/
def severitiesDescend (q : List ReportEntry) : Prop := q.Pairwise fun a b => b.severity ≤ a.severity

theorem insertReport_placed (descend : severitiesDescend q) : n.placed q (insertReport n q) := by
  induction q with
  | nil => exact ⟨[], [], rfl, rfl, by simp, by simp⟩
  | cons e q ih =>
    obtain ⟨below, rest⟩ := List.pairwise_cons.1 descend
    unfold insertReport
    split
    · next higher =>
      obtain ⟨a, b, split, inserted, front, back⟩ := ih rest
      refine ⟨e :: a, b, by rw [split]; rfl, by rw [inserted]; rfl, ?_, back⟩
      simpa using ⟨higher, front⟩
    · next lower =>
      refine ⟨[], e :: q, rfl, rfl, by simp, ?_⟩
      simpa using ⟨Nat.lt_of_not_le lower, fun x member => (below x member).trans_lt (Nat.lt_of_not_le lower)⟩

/-- A report placed among entries of other codes leaves the queue in order (R134). -/
theorem ReportEntry.placed.ordered (placed : n.placed old new) (space : old.length < 16)
    (codes : (old.map (·.code)).Nodup) (descend : severitiesDescend old) (other : ∀ e ∈ old, e.code ≠ n.code) :
    reportsOrdered new := by
  obtain ⟨a, b, rfl, rfl, front, back⟩ := placed
  obtain ⟨descendA, descendB, across⟩ := List.pairwise_append.1 descend
  have moved : (a ++ n :: b).Perm (n :: (a ++ b)) := List.perm_middle
  refine ⟨by rw [moved.length_eq]; exact space, ?_, ?_⟩
  · rw [(moved.map _).nodup_iff, List.map_cons, List.nodup_cons]
    exact ⟨by simpa only [List.mem_map, not_exists, not_and] using other, codes⟩
  · refine List.pairwise_append.2 ⟨descendA, List.pairwise_cons.2 ⟨fun x member => (back x member).le, descendB⟩, ?_⟩
    intro x inA y member
    obtain rfl | inB := List.mem_cons.1 member
    · exact front x inA
    · exact across x inA y inB

theorem takeReport_of_code (held : ∃ e ∈ q, e.code = n.code) :
    takeReport n q dropped = (q.map fun e => if e.code = n.code then e.merge n else e, dropped) := by
  have any : q.any (·.code == n.code) = true := by simpa using held
  simp [takeReport, any]

theorem not_any_code (other : ∀ e ∈ q, e.code ≠ n.code) : q.any (·.code == n.code) = false := by
  simpa using other

theorem takeReport_of_space (other : ∀ e ∈ q, e.code ≠ n.code) (space : q.length < 16) :
    takeReport n q dropped = (insertReport n q, dropped) := by
  have room : q.length < Config.reportCapacity := space
  simp [takeReport, not_any_code other, room]

/-- A full queue gives up its last entry for a report of higher severity, or drops the report (R136). -/
theorem takeReport_of_full {l : List ReportEntry} {e : ReportEntry} (other : ∀ x ∈ l ++ [e], x.code ≠ n.code)
    (full : (l ++ [e]).length = 16) :
    takeReport n (l ++ [e]) dropped =
      (if e.severity < n.severity then insertReport n l else l ++ [e], min 255 (dropped + 1)) := by
  have space : ¬ (l ++ [e]).length < Config.reportCapacity := by rw [full]; decide
  have fresh := not_any_code other
  simp only [takeReport, fresh, Bool.false_eq_true, if_false, if_neg space, List.getLast?_concat, List.dropLast_concat]
  split <;> rfl

/-- The last entry of a queue in order has the lowest severity (R134, R136; log entry 28). -/
theorem severitiesDescend.last {l : List ReportEntry} {e : ReportEntry} (descend : severitiesDescend (l ++ [e])) :
    ∀ x ∈ l ++ [e], e.severity ≤ x.severity := by
  obtain ⟨-, -, across⟩ := List.pairwise_append.1 descend
  intro x member
  obtain inL | last := List.mem_append.1 member
  · exact across x inL e (List.mem_singleton.2 rfl)
  · rw [List.mem_singleton.1 last]

/-- A queue of 16 entries is all but its last, and its last. -/
theorem exists_concat_of_full (full : q.length = 16) : ∃ l e, q = l ++ [e] := by
  obtain empty | concat := List.eq_nil_or_concat q
  · rw [empty] at full; exact absurd full (by decide)
  · obtain ⟨l, e, rfl⟩ := concat
    exact ⟨l, e, List.concat_eq_append⟩

/-- Merging changes neither code nor severity of an entry (R135). -/
theorem reportsOrdered.merged (ordered : reportsOrdered q) :
    reportsOrdered (q.map fun e => if e.code = n.code then e.merge n else e) := by
  obtain ⟨length, codes, descend⟩ := ordered
  have code : ∀ e : ReportEntry, (if e.code = n.code then e.merge n else e).code = e.code := by
    intro e; split <;> rfl
  have severity : ∀ e : ReportEntry, (if e.code = n.code then e.merge n else e).severity = e.severity := by
    intro e; split <;> rfl
  refine ⟨by rwa [List.length_map], ?_, List.pairwise_map.2 ?_⟩
  · rw [List.map_map]
    simpa only [Function.comp_def, code] using codes
  · simpa only [severity] using descend

theorem reportsOrdered.sublist (ordered : reportsOrdered q) (sub : old.Sublist q) : reportsOrdered old := by
  obtain ⟨length, codes, descend⟩ := ordered
  exact ⟨sub.length_le.trans length, codes.sublist (sub.map _), descend.sublist sub⟩

/-- An event taken by the Report Unit leaves the queue in order (R134 to R136). -/
theorem reportsOrdered.takeReport (ordered : reportsOrdered q) (n : ReportEntry) (dropped : Nat) :
    reportsOrdered (takeReport n q dropped).1 := by
  have ⟨length, codes, descend⟩ := ordered
  by_cases held : ∃ e ∈ q, e.code = n.code
  · rw [takeReport_of_code held]; exact ordered.merged
  · have other : ∀ e ∈ q, e.code ≠ n.code := fun e member same => held ⟨e, member, same⟩
    by_cases space : q.length < 16
    · rw [takeReport_of_space other space]
      exact (insertReport_placed descend).ordered space codes descend other
    · obtain ⟨l, e, rfl⟩ := exists_concat_of_full (Nat.le_antisymm length (Nat.le_of_not_lt space))
      rw [takeReport_of_full other (Nat.le_antisymm length (Nat.le_of_not_lt space))]
      have front : l.Sublist (l ++ [e]) := List.sublist_append_left l [e]
      dsimp only
      split
      · obtain ⟨-, codesL, descendL⟩ := ordered.sublist front
        refine (insertReport_placed descendL).ordered ?_ codesL descendL fun x member => other x (front.subset member)
        rw [List.length_append, List.length_singleton] at length
        omega
      · exact ordered

end ReportQueue

/-- Settles O37: the four fates of an event are the equations of `takeReport`. -/
theorem reportQueueTakesEvents : Obligations.ReportQueueTakesEvents := by
  intro n q d ordered _
  have ⟨_, codes, descend⟩ := ordered
  refine ⟨fun a e b split code => ?_, fun other space => ?_, fun other full lower => ?_, fun other full lower => ?_⟩
  · have held : ∃ x ∈ q, x.code = n.code := ⟨e, by simp [split], code⟩
    rw [takeReport_of_code held, split]
    rw [split, List.map_append, List.map_cons, List.nodup_append, List.nodup_cons] at codes
    obtain ⟨-, ⟨notB, -⟩, apart⟩ := codes
    have keepA : ∀ x ∈ a, (if x.code = n.code then x.merge n else x) = x := fun x member =>
      if_neg fun (same : x.code = n.code) =>
        apart _ (List.mem_map_of_mem member) _ (List.mem_cons_self ..) (same.trans code.symm)
    have keepB : ∀ x ∈ b, (if x.code = n.code then x.merge n else x) = x := fun x member =>
      if_neg fun (same : x.code = n.code) => notB (code.trans same.symm ▸ List.mem_map_of_mem member)
    rw [List.map_append, List.map_cons, if_pos code, List.map_congr_left keepA, List.map_congr_left keepB,
      List.map_id', List.map_id']
    rfl
  · rw [takeReport_of_space other space]
    exact ⟨insertReport_placed descend, rfl⟩
  · obtain ⟨l, e, rfl⟩ := exists_concat_of_full full
    rw [takeReport_of_full other full, if_neg (Nat.not_lt.2 (lower e (by simp)))]
  · obtain ⟨l, e, rfl⟩ := exists_concat_of_full full
    obtain ⟨x, member, low⟩ := lower
    have last := severitiesDescend.last descend
    rw [takeReport_of_full other full, if_pos ((last x member).trans_lt low)]
    exact ⟨l, e, rfl, last, insertReport_placed (descend.sublist (List.sublist_append_left l [e])), rfl⟩

/-! ## The record write queue (R104, R105) -/

section WriteQueue

/-- At most 8 entries, each AGE entry with at least one code (R104). -/
def writesSound (q : List WriteEntry) : Prop := q.length ≤ 8 ∧ ∀ x ∈ q, x.named

variable {q rest : List WriteEntry} {head : WriteEntry}

theorem writesSound_nil : writesSound [] := ⟨Nat.zero_le 8, by simp⟩

theorem writesSound.tail (sound : writesSound (head :: rest)) : writesSound rest :=
  ⟨(Nat.le_succ _).trans sound.1, fun x member => sound.2 x (List.mem_cons_of_mem _ member)⟩

/-- An AGE entry that loses its first code stays with the others, or leaves with its last (R113). -/
theorem writesSound.dropAgeCode {codes : List Nat} (sound : writesSound (.age codes :: rest)) :
    writesSound (dropAgeCode codes rest) := by
  unfold Machine.dropAgeCode
  split
  · exact sound.tail
  · next cs left =>
    refine ⟨sound.1, fun x member => ?_⟩
    obtain rfl | old := List.mem_cons.1 member
    · exact left
    · exact sound.2 x (List.mem_cons_of_mem _ old)

theorem writesSound.join (sound : writesSound q) {x : WriteEntry} (named : x.named) (flags : MemoryFlags) :
    writesSound (joinWrites x q flags).1 := by
  obtain ⟨space, joined⟩ | ⟨-, lost⟩ := joinWrites_cases x q flags
  · rw [joined]
    refine ⟨by rw [List.length_append]; exact space, fun y member => ?_⟩
    obtain old | new := List.mem_append.1 member
    · exact sound.2 y old
    · rw [List.mem_singleton.1 new]; exact named
  · rw [lost]; exact sound

theorem WriteEntry.named.cleared {x y : WriteEntry} {sel : Nat → Bool} (left : x.cleared sel = some y) : y.named := by
  cases x with
  | confirm e =>
    change (if sel e.code then none else some (WriteEntry.confirm e)) = some y at left
    split at left <;> cases left
    trivial
  | heal code time =>
    change (if sel code then none else some (WriteEntry.heal code time)) = some y at left
    split at left <;> cases left
    trivial
  | age codes =>
    unfold WriteEntry.cleared at left
    dsimp only at left
    split at left
    · cases left
    · next some => cases left; exact some

theorem writesSound.cleared (sound : writesSound q) (sel : Nat → Bool) :
    writesSound (q.filterMap (WriteEntry.cleared sel)) := by
  refine ⟨(List.length_filterMap_le _ _).trans sound.1, fun y member => ?_⟩
  obtain ⟨x, -, left⟩ := List.mem_filterMap.1 member
  exact WriteEntry.named.cleared left

theorem writesSound.atLimit (sound : writesSound q) (writing : Bool) : writesSound (queueAtLimit writing q) := by
  unfold queueAtLimit
  split
  · split
    · exact ⟨by simp, by simp [WriteEntry.named]⟩
    · next head rest _ =>
      exact ⟨by simp, fun x member => List.mem_singleton.1 member ▸ sound.2 head (List.mem_cons_self ..)⟩
    · exact sound
  · exact writesSound_nil

/-! ### What an event hands on -/

/-- What a sample hands on is a CONFIRM or a HEAL entry (R86, R88). -/
theorem FaultEntry.handOn_named (e : FaultEntry) (cache : List CacheEntry) (st : Stamp) (o : SampleOutcome) :
    ∀ h ∈ e.handOn cache st o, h.write.named := by
  cases o <;> simp [FaultEntry.handOn, FaultEntry.confirmation, FaultEntry.heal, WriteEntry.named]

theorem takeSample_handed_named {x : SampleContext} {d : Debounced} (named : ∀ h ∈ d.handed, h.write.named)
    (sample : Nat × Bool) : ∀ h ∈ (takeSample x d sample).handed, h.write.named := by
  unfold takeSample
  split
  · next e f _ _ =>
    intro h member
    obtain old | new := List.mem_append.1 member
    · exact named h old
    · exact e.handOn_named _ _ _ h new
  · exact named

theorem takeSamples_handed_named (x : SampleContext) (samples : List (Nat × Bool)) (faults : List FaultState)
    (flags : List RideFlags) : ∀ h ∈ (takeSamples x samples faults flags).handed, h.write.named :=
  List.foldlRecOn samples (takeSample x) (motive := fun d => ∀ h ∈ d.handed, h.write.named) (by simp)
    fun _ named sample _ => takeSample_handed_named named sample

theorem HandedTo.sound_foldl {hs : List Handed} (named : ∀ h ∈ hs, h.write.named) {q : HandedTo}
    (writes : writesSound q.writes) (reports : reportsOrdered q.reports) :
    writesSound (hs.foldl HandedTo.take q).writes ∧ reportsOrdered (hs.foldl HandedTo.take q).reports :=
  List.foldlRecOn hs HandedTo.take (motive := fun q => writesSound q.writes ∧ reportsOrdered q.reports)
    ⟨writes, reports⟩
    fun _ sound h member => ⟨sound.1.join (named h member) _, sound.2.takeReport _ _⟩

end WriteQueue

/-! ## Both queues, along every move (R104, R134) -/

section Queues

/-- What the statements ask of the two queues of the pipeline. -/
def State.queuesSound (s : State) : Prop := s.writeQueueSound ∧ reportsOrdered s.reports

variable {s t : State}

theorem State.queuesSound_of_awake (on : ¬ (s.power = .starting ∨ s.power = .standby))
    (writes : writesSound s.writeQueue) (reports : reportsOrdered s.reports) : s.queuesSound :=
  ⟨⟨writes.1, writes.2, fun off => absurd off on⟩, reports⟩

theorem State.writeQueueSound.writes (sound : s.writeQueueSound) : writesSound s.writeQueue :=
  ⟨sound.1, sound.2.1⟩

/-- A slot write is in progress in RUNNING and AFTER_RUN alone. -/
theorem State.writeQueueSound.awake_of_write (sound : s.writeQueueSound) {w : SlotWrite} (write : s.write = some w) :
    ¬ (s.power = .starting ∨ s.power = .standby) := by
  obtain ⟨-, -, idle⟩ := sound
  intro off
  simp [(idle off).2] at write

theorem State.awake_of_canBeginWrite (begins : s.canBeginWrite = true) :
    s.power = .running ∨ s.power = .afterRun := by
  simp only [State.canBeginWrite, Bool.and_eq_true, State.isAwake, Bool.or_eq_true, State.isRunning_iff,
    State.inAfterRun_iff] at begins
  exact begins.1.1.1

theorem State.not_off_of_awake (awake : s.power = .running ∨ s.power = .afterRun) :
    ¬ (s.power = .starting ∨ s.power = .standby) := by
  obtain h | h := awake <;> simp [h]

theorem State.beginHead_writes {head : WriteEntry} {rest : List WriteEntry} (sound : writesSound s.writeQueue)
    (queue : s.writeQueue = head :: rest) : writesSound (s.beginHead head rest).writeQueue := by
  have whole := sound
  rw [queue] at sound
  unfold State.beginHead
  split
  · split
    · exact whole
    · exact sound.tail
  · split
    · exact whole
    · exact sound.tail
  · exact sound.tail
  · split
    · exact whole
    · exact sound.dropAgeCode

/-- An event over the watches hands on to both queues what its samples call for (R86, R88). -/
theorem State.queuesSound.watchEvent (sound : s.queuesSound) (reach : WatchEntry → Option Reach)
    (running : s.power = .running) : (s.watchEvent reach).queuesSound := by
  obtain ⟨writes, reports⟩ := sound
  obtain ⟨-, -, -, -, ⟨handed, perm, folded⟩, -, -⟩ := s.watchEvent_takesEvent reach
  have named : ∀ h ∈ handed, h.write.named :=
    fun h member => takeSamples_handed_named _ _ _ _ h (perm.mem_iff.1 member)
  have both := HandedTo.sound_foldl (q := ⟨s.writeQueue, s.retained.flags, s.reports, s.reportsDropped⟩) named
    writes.writes reports
  rw [folded] at both
  exact State.queuesSound_of_awake (by simp [running]) both.1 both.2

theorem State.withAgeEntry_writes (s : State) (sound : writesSound s.writeQueue) : writesSound s.withAgeEntry.1 := by
  unfold State.withAgeEntry
  split
  · exact sound
  · next some => exact sound.join (x := .age _) some _

theorem State.Move.queuesSound {c : Instr} (move : State.Move c s t) (sound : s.queuesSound) : t.queuesSound := by
  have ⟨writeQueue, reports⟩ := sound
  have writes := writeQueue.writes
  cases move with
  | port p r next => cases p <;> exact sound
  | event reach running => exact sound.watchEvent reach running
  | beginWrite head rest begins queue =>
    have awake := State.not_off_of_awake (State.awake_of_canBeginWrite begins)
    have left := State.beginHead_writes writes queue
    refine State.queuesSound_of_awake ?_ left ?_
    · obtain ⟨i, c, b, h⟩ | h | ⟨q, h⟩ := s.beginHead_cases head rest <;> rw [h] <;> exact awake
    · obtain ⟨i, c, b, h⟩ | h | ⟨q, h⟩ := s.beginHead_cases head rest <;> rw [h] <;> exact reports
  | confirmed w e rest write queue =>
    rw [queue] at writes
    exact State.queuesSound_of_awake (writeQueue.awake_of_write write) writes.tail reports
  | healed w r code time rest write base queue =>
    rw [queue] at writes
    exact State.queuesSound_of_awake (writeQueue.awake_of_write write) writes.tail reports
  | aged w r codes rest write base queue =>
    rw [queue] at writes
    have awake := writeQueue.awake_of_write write
    obtain h | h := s.completeAgeWrite_cases w.slot r (dropAgeCode codes rest)
    · rw [h]; exact State.queuesSound_of_awake awake writes.dropAgeCode (reports.takeReport _ _)
    · rw [h]; exact State.queuesSound_of_awake awake writes.dropAgeCode reports
  | limit overflow afterRun =>
    exact State.queuesSound_of_awake (State.not_off_of_awake (.inr afterRun)) (writes.atLimit _) reports
  | sleep afterRun idle =>
    exact ⟨⟨Nat.zero_le 8, by simp [State.intoStandby], fun _ => ⟨rfl, idle⟩⟩, reports.sublist (List.nil_sublist _)⟩
  | reset | wake =>
    exact ⟨⟨writesSound_nil.1, writesSound_nil.2, fun _ => ⟨rfl, rfl⟩⟩, reports.sublist (List.nil_sublist _)⟩
  | setUp startup starting => exact ⟨⟨writesSound_nil.1, writesSound_nil.2, fun _ => ⟨rfl, rfl⟩⟩, reports⟩
  | lampStep => obtain ⟨k, due, -, h⟩ := s.advanceStep_cases; rw [h]; exact sound
  | boundary running => obtain ⟨k, e, b, h, -⟩ := s.crossBoundary_cases; rw [h]; exact sound
  | ride u r bulb boards opens =>
    obtain ⟨-, rfl⟩ | ⟨-, -, rfl⟩ := boards <;> exact State.queuesSound_of_awake nofun writes reports
  | rideEnd u boards =>
    obtain ⟨-, rfl⟩ | ⟨-, -, rfl⟩ := boards
    · exact State.queuesSound_of_awake nofun (u.withAgeEntry_writes writes) reports
    · exact State.queuesSound_of_awake nofun (s.joinBuses.withAgeEntry_writes writes) reports
  | rest starting waits =>
    have empty := writeQueue.2.2 (.inl starting)
    exact ⟨⟨writes.1, writes.2, fun _ => empty⟩, reports⟩
  | sendReport e rest queue =>
    exact ⟨writeQueue, reports.sublist (queue ▸ List.sublist_cons_self e rest)⟩
  | clear scope quiet =>
    refine ⟨⟨(writes.cleared _).1, (writes.cleared _).2, fun off => ?_⟩, reports.sublist List.filter_sublist⟩
    obtain ⟨empty, idle⟩ := writeQueue.2.2 off
    exact ⟨by simp [State.acceptClear, empty], idle⟩
  | _ => exact sound

end Queues

/-- Settles O30: every move keeps both queues sound; what is handed on goes to both by `HandedTo.take`. -/
theorem pipelineQueuesStaySound : Obligations.PipelineQueuesStaySound := by
  refine ⟨fun c s t writes reports run => ?_, fun q h => ⟨fun space => ?_, fun full => ?_, rfl, rfl⟩⟩
  · exact (State.moves_of_exec run).keeps (P := State.queuesSound) (fun _ _ move => move.queuesSound) ⟨writes, reports⟩
  · obtain ⟨-, joined⟩ | ⟨full, -⟩ := joinWrites_cases h.write q.writes q.flags
    · exact ⟨congrArg Prod.fst joined, congrArg Prod.snd joined⟩
    · omega
  · obtain ⟨space, -⟩ | ⟨-, lost⟩ := joinWrites_cases h.write q.writes q.flags
    · omega
    · exact ⟨congrArg Prod.fst lost, congrArg Prod.snd lost⟩

end Sys2Proof.Machine

namespace Sys2Proof.Machine

/-! ## Lists by index -/

/-- The members of a flattened `mapFrom` come from one index each. -/
theorem mem_mapFrom_flatten {α β : Type} (f : Nat → α → List β) (xs : List α) (b : β) :
    b ∈ (mapFrom f 0 xs).flatten ↔ ∃ i x, xs[i]? = some x ∧ b ∈ f i x := by
  have lists : ∀ l : List β, l ∈ mapFrom f 0 xs ↔ ∃ i x, xs[i]? = some x ∧ f i x = l := by
    intro l
    simp only [List.mem_iff_getElem?, mapFrom_getElem?, Nat.zero_add, Option.map_eq_some_iff]
  rw [List.mem_flatten]
  constructor
  · rintro ⟨l, listed, member⟩
    obtain ⟨i, x, entry, rfl⟩ := (lists l).1 listed
    exact ⟨i, x, entry, member⟩
  · rintro ⟨i, x, entry, member⟩
    exact ⟨_, (lists _).2 ⟨i, x, entry, rfl⟩, member⟩

theorem mem_zip_iff_getElem? {α β : Type} {xs : List α} {ys : List β} {x : α} {y : β} :
    (x, y) ∈ xs.zip ys ↔ ∃ i : Nat, xs[i]? = some x ∧ ys[i]? = some y := by
  simp only [List.mem_iff_getElem?, List.getElem?_zip_eq_some]

/-! ## The demand of a system (R90, R124) -/

section Demand

variable {t : Tables} {faults : List FaultState} {sys : FaultSystem} {e : FaultEntry}

theorem FaultState.demands_iff (f : FaultState) : f.demands = true ↔ f.state = .active ∨ f.state = .healing := by
  simp [FaultState.demands]

/-- The demanding entries are the working faults of the system in ACTIVE or HEALING (R90). -/
theorem mem_demanding : e ∈ demanding t faults sys ↔
    ∃ f, (e, f) ∈ t.faultList.zip faults ∧ e.system = sys ∧ (f.state = .active ∨ f.state = .healing) := by
  simp only [demanding, mem_mapFrom_flatten, mem_zip_iff_getElem?]
  constructor
  · rintro ⟨i, d, entry, member⟩
    split at member
    · next f state =>
      split at member
      · next demands =>
        obtain rfl := List.mem_singleton.1 member
        rw [Bool.and_eq_true, beq_iff_eq, f.demands_iff] at demands
        exact ⟨f, ⟨i, entry, state⟩, demands.2, demands.1⟩
      · cases member
    · cases member
  · rintro ⟨f, ⟨i, entry, state⟩, system, demands⟩
    refine ⟨i, e, entry, ?_⟩
    rw [state]
    simp [system, f.demands_iff.2 demands]

/-- The place of a lamp mode in the order of R124. -/
def LampMode.rank : LampMode → Nat
  | .off => 0
  | .steady => 1
  | .slow => 2
  | .fast => 3

theorem LampMode.max_cases (a b : LampMode) :
    (a.max b = a ∧ b.rank ≤ a.rank) ∨ (a.max b = b ∧ a.rank ≤ b.rank) := by
  cases a <;> cases b <;> decide

/-- The highest mode of a list of entries is the mode of one of them, or OFF where there is none (R124). -/
theorem highestMode_spec (es : List FaultEntry) :
    let highest : LampMode := es.foldr (fun e m => e.lampMode.max m) .off
    (∀ e ∈ es, e.lampMode.rank ≤ highest.rank)
    ∧ ((∃ e ∈ es, highest = e.lampMode) ∨ (es = [] ∧ highest = .off)) := by
  induction es with
  | nil => exact ⟨nofun, .inr ⟨rfl, rfl⟩⟩
  | cons d es ih =>
    intro highest
    obtain ⟨bound, attained⟩ := ih
    obtain ⟨wins, below⟩ | ⟨loses, above⟩ := d.lampMode.max_cases (es.foldr (fun e m => e.lampMode.max m) .off)
    · have same : highest = d.lampMode := wins
      rw [same, List.forall_mem_cons]
      exact ⟨⟨le_rfl, fun e member => (bound e member).trans below⟩, .inl ⟨d, List.mem_cons_self .., rfl⟩⟩
    · have same : highest = es.foldr (fun e m => e.lampMode.max m) .off := loses
      rw [same, List.forall_mem_cons]
      refine ⟨⟨above, bound⟩, ?_⟩
      obtain ⟨e, member, mode⟩ | ⟨-, dark⟩ := attained
      · exact .inl ⟨e, List.mem_cons_of_mem _ member, mode⟩
      · rw [dark] at above ⊢
        have off : d.lampMode = .off := by
          cases mode : d.lampMode <;> rw [mode] at above <;> simp [LampMode.rank] at above
        exact .inl ⟨d, List.mem_cons_self .., off.symm⟩

end Demand

/-! ## The lamps' modes, along every move (R125, R131) -/

section LampModes

variable {s t : State} {sys : FaultSystem}

/-- The four cases of R125. -/
theorem State.modeOf_eq (s : State) (sys : FaultSystem) : s.modeOf sys =
    (if s.power ≠ .running then .off
     else if s.configured = false ∨ s.bulbCheck.isSome = true then .steady
     else lampDemand s.working s.faults sys) := by
  unfold State.modeOf State.isRunning
  by_cases running : s.power = .running
  · cases configured : s.configured <;> cases bulb : s.bulbCheck <;> simp [running]
  · simp [running]

theorem State.modeOf_off (s : State) (sys : FaultSystem) (off : s.power ≠ .running) : s.modeOf sys = .off := by
  rw [s.modeOf_eq, if_pos off]

/-- The mode depends on the power state, the bulb check, the tables and the fault states alone. -/
theorem State.modeOf_congr (power : t.power = s.power) (configured : t.configured = s.configured)
    (bulb : t.bulbCheck.isSome = s.bulbCheck.isSome) (working : t.working = s.working) (faults : t.faults = s.faults) :
    t.modeOf sys = s.modeOf sys := by
  rw [t.modeOf_eq, s.modeOf_eq, power, configured, bulb, working, faults]

@[simp] theorem Lamp.setMode_mode (l : Lamp) (k : Settings) (m : LampMode) : (l.setMode k m).mode = m := by
  unfold Lamp.setMode
  split
  · assumption
  · rfl

@[simp] theorem Lamp.commit_mode (l : Lamp) (old new : Settings) (m : LampMode) : (l.commit old new m).mode = m := by
  have repatterned : ∀ k : Lamp, (k.repattern new).mode = k.mode := by
    intro k; unfold Lamp.repattern; split <;> rfl
  unfold Lamp.commit
  dsimp only
  split
  · exact l.setMode_mode new m
  · rw [repatterned, l.setMode_mode]

@[simp] theorem Lamp.commit_dark (old new : Settings) : Lamp.dark.commit old new .off = .dark := by
  unfold Lamp.commit
  dsimp only
  split <;> rfl

/-- While RUNNING the lamps are sound when each shows the mode that R125 gives. -/
theorem State.lampsSound_of_running (running : s.power = .running) (engine : s.engineLamp.mode = s.modeOf .engine)
    (brake : s.brakeLamp.mode = s.modeOf .brake) (step : s.stepPos < 16) : s.lampsSound :=
  ⟨engine, brake, step, fun off => absurd running off⟩

/-- Outside RUNNING the lamps are sound when they are dark. -/
theorem State.lampsSound_of_dark (off : s.power ≠ .running) (engine : s.engineLamp = .dark)
    (brake : s.brakeLamp = .dark) (bulb : s.bulbCheck = none) (step : s.stepPos < 16) : s.lampsSound := by
  refine ⟨?_, ?_, step, fun _ => ⟨engine, brake, bulb⟩⟩
  · rw [engine, s.modeOf_off _ off]; rfl
  · rw [brake, s.modeOf_off _ off]; rfl

/-- Sound lamps whose modes are set anew are sound again (R90, R125). -/
theorem State.lampsSound.reset (sound : s.lampsSound) (power : t.power = s.power) (bulb : t.bulbCheck = s.bulbCheck)
    (step : t.stepPos = s.stepPos) (k : Settings)
    (engine : t.engineLamp = s.engineLamp.setMode k (t.modeOf .engine))
    (brake : t.brakeLamp = s.brakeLamp.setMode k (t.modeOf .brake)) : t.lampsSound := by
  obtain ⟨-, -, position, dark⟩ := sound
  refine ⟨by rw [engine, Lamp.setMode_mode], by rw [brake, Lamp.setMode_mode], step ▸ position, fun off => ?_⟩
  obtain ⟨engineDark, brakeDark, none⟩ := dark (power ▸ off)
  rw [engine, brake, engineDark, brakeDark, t.modeOf_off _ off, t.modeOf_off _ off, bulb]
  exact ⟨rfl, rfl, none⟩

/-- Sound lamps that a commit sets anew are sound again (R132). -/
theorem State.lampsSound.commit (sound : s.lampsSound) (power : t.power = s.power) (bulb : t.bulbCheck = s.bulbCheck)
    (step : t.stepPos = s.stepPos) (old new : Settings)
    (engine : t.engineLamp = s.engineLamp.commit old new (t.modeOf .engine))
    (brake : t.brakeLamp = s.brakeLamp.commit old new (t.modeOf .brake)) : t.lampsSound := by
  obtain ⟨-, -, position, dark⟩ := sound
  refine ⟨by rw [engine, Lamp.commit_mode], by rw [brake, Lamp.commit_mode], step ▸ position, fun off => ?_⟩
  obtain ⟨engineDark, brakeDark, none⟩ := dark (power ▸ off)
  rw [engine, brake, engineDark, brakeDark, t.modeOf_off _ off, t.modeOf_off _ off, bulb, Lamp.commit_dark]
  exact ⟨rfl, rfl, none⟩

theorem State.Move.lampsSound {c : Instr} (move : State.Move c s t) (sound : s.lampsSound) : t.lampsSound := by
  have ⟨engine, brake, step, dark⟩ := sound
  cases move with
  | port p r next => cases p <;> exact sound
  | event reach running =>
    obtain ⟨-, -, -, -, -, engine, brake⟩ := s.watchEvent_takesEvent reach
    exact sound.reset rfl rfl rfl _ engine brake
  | beginWrite head rest begins queue =>
    obtain ⟨i, c, b, h⟩ | h | ⟨q, h⟩ := s.beginHead_cases head rest <;> rw [h] <;> exact sound
  | aged w r codes rest write base queue =>
    obtain h | h := s.completeAgeWrite_cases w.slot r (dropAgeCode codes rest) <;> rw [h] <;> exact sound
  | lampStep => obtain ⟨k, due, bound, h⟩ := s.advanceStep_cases; rw [h]; exact ⟨engine, brake, bound, dark⟩
  | boundary running =>
    obtain ⟨k, e, b, h, ⟨bulb, engineKept, brakeKept⟩ | ⟨engineNew, brakeNew⟩⟩ := s.crossBoundary_cases <;> rw [h]
    · refine State.lampsSound_of_running running ?_ ?_ step
      · exact (engineKept.trans engine).trans (State.modeOf_congr rfl rfl bulb.symm rfl rfl)
      · exact (brakeKept.trans brake).trans (State.modeOf_congr rfl rfl bulb.symm rfl rfl)
    · exact State.lampsSound_of_running running engineNew brakeNew step
  | sleep afterRun idle =>
    obtain ⟨engine, brake, bulb⟩ := dark (by simp [afterRun])
    exact State.lampsSound_of_dark nofun engine brake bulb step
  | reset | wake => exact State.lampsSound_of_dark nofun rfl rfl rfl (by decide : 0 < 16)
  | setUp startup starting =>
    obtain ⟨engine, brake, bulb⟩ := dark (by simp [starting])
    exact State.lampsSound_of_dark (by simp [State.atKey, State.setUp, starting]) engine brake bulb step
  | ride u r bulb boards opens => exact State.lampsSound_of_running rfl rfl rfl (by decide : 0 < 16)
  | rideEnd u boards =>
    refine State.lampsSound_of_dark nofun rfl rfl rfl ?_
    obtain ⟨-, rfl⟩ | ⟨-, -, rfl⟩ := boards <;> exact step
  | rest starting waits =>
    obtain ⟨engine, brake, bulb⟩ := dark (by simp [starting])
    exact State.lampsSound_of_dark nofun engine brake bulb step
  | clear scope quiet => exact sound.reset rfl rfl rfl _ rfl rfl
  | install commits consistent => exact sound.commit rfl rfl rfl _ _ rfl rfl
  | _ => exact sound

end LampModes

/-- Settles O32: every move keeps the lamps sound; the mode by `State.modeOf_eq`; the demand is the highest mode of the
demanding entries. -/
theorem lampModesStayAsTheDemandGives : Obligations.LampModesStayAsTheDemandGives := by
  refine ⟨fun c s t sound run => ?_, State.modeOf_eq, fun t faults sys => ?_⟩
  · exact (State.moves_of_exec run).keeps (fun _ _ move => move.lampsSound) sound
  · obtain ⟨bound, attained⟩ := highestMode_spec (demanding t faults sys)
    refine ⟨fun e f demands => bound e (mem_demanding.2 ⟨f, demands⟩), ?_⟩
    obtain ⟨e, member, same⟩ | ⟨none, dark⟩ := attained
    · obtain ⟨f, demands⟩ := mem_demanding.1 member
      exact .inl ⟨e, f, demands, same⟩
    · refine .inr ⟨fun e f demands => ?_, dark⟩
      have member : e ∈ demanding t faults sys := mem_demanding.2 ⟨f, demands⟩
      rw [none] at member
      cases member

end Sys2Proof.Machine

namespace Sys2Proof.Machine

/-! ## Signals and the frames they are drawn from (R32, R42, R49, R52) -/

section CurrentSignals

variable {t : Tables} {monitor : List FrameRecord} {cache : List CacheEntry} {i : Nat}

/-- Every VALID or UNAVAILABLE signal is drawn from an entry that is arriving (R52). -/
def currentDrawn (t : Tables) (monitor : List FrameRecord) (cache : List CacheEntry) : Prop :=
  ∀ x ∈ t.signalList.zip cache, x.2.isCurrent = true →
    ((monitor[x.1.frameEntry]?).any fun r => r.state.isArriving) = true

theorem currentDrawn_iff : currentDrawn t monitor cache ↔
    ∀ k g c, entryAt t.settings.signalCount t.signals k = some g → cache[k]? = some c → c.isCurrent = true →
      ∃ r, monitor[g.frameEntry]? = some r ∧ r.state.isArriving = true := by
  simp only [currentDrawn, Prod.forall, mem_zip_iff_getElem?, Option.any_eq_true]
  constructor
  · intro drawn k g c named entry
    exact drawn g c ⟨k, (inUse_getElem? _ _ _).trans named, entry⟩
  · rintro drawn g c ⟨k, named, entry⟩
    exact drawn k g c ((inUse_getElem? _ _ _).symm.trans named) entry

/-- A cache at its initial values holds no current signal (R53). -/
theorem currentDrawn_initialCache : currentDrawn t monitor (initialCache t) := by
  intro x member current
  obtain ⟨-, entry⟩ := List.of_mem_zip member
  obtain ⟨g, -, initial⟩ := List.mem_map.1 entry
  rw [← initial] at current
  cases current

theorem CacheEntry.staled_not_current (c : CacheEntry) : c.staled.isCurrent = false := by
  unfold CacheEntry.staled
  split
  · rfl
  · next quiet => exact Bool.eq_false_iff.2 quiet

theorem classify_arriving (e : FrameEntry) (r : FrameRecord) (degraded : Bool) (now : Nat) :
    (classify e r degraded now).isArriving = true := by
  unfold classify
  split
  · rfl
  · split
    · rfl
    · rfl
    all_goals
      dsimp only
      split
      · split <;> rfl
      · split <;> rfl

/-- An arrival makes its record's state arriving, or leaves it as it was (R26, R28). -/
theorem FrameRecord.afterArrival_state (r : FrameRecord) (e : FrameEntry) (degraded : Bool) (now : Nat) (j : Judgement)
    (data : List Byte) :
    (r.afterArrival e degraded now j data).state.isArriving = true
    ∨ (j.verdict ≠ .fresh ∧ (r.afterArrival e degraded now j data).state = r.state) := by
  unfold FrameRecord.afterArrival
  split
  · exact .inl (classify_arriving e r degraded now)
  · next damaged => exact .inr ⟨by simp [damaged], rfl⟩
  · next repeated => exact .inr ⟨by simp [repeated], rfl⟩

/-- The record that an arrival writes is arriving if it was so, or if the arrival is fresh. -/
theorem currentDrawn.arrival {old : FrameRecord} {r : FrameRecord} {next : List CacheEntry} {fresh : Prop}
    (drawn : currentDrawn t monitor cache) (record : monitor[i]? = some old)
    (state : r.state.isArriving = true ∨ (¬ fresh ∧ r.state = old.state))
    (kept : ∀ k c, next[k]? = some c → (fresh ∧ t.drawnFrom i k = true) ∨ cache[k]? = some c) :
    currentDrawn t (monitor.set i r) next := by
  rw [currentDrawn_iff] at drawn ⊢
  intro k g c named entry current
  have inside : i < monitor.length := (List.getElem?_eq_some_iff.1 record).1
  by_cases here : g.frameEntry = i
  · refine ⟨r, by rw [here, List.getElem?_set_self inside], ?_⟩
    obtain arriving | ⟨notFresh, same⟩ := state
    · exact arriving
    · obtain ⟨isFresh, -⟩ | before := kept k c entry
      · exact absurd isFresh notFresh
      · obtain ⟨q, held, arriving⟩ := drawn k g c named before current
        rw [here, record] at held
        rw [same, Option.some.inj held]
        exact arriving
  · rw [List.getElem?_set_ne (Ne.symm here)]
    obtain ⟨-, fromHere⟩ | before := kept k c entry
    · simp [Tables.drawnFrom, named, here] at fromHere
    · exact drawn k g c named before current

/-- An expiry makes its record MISSING and its signals STALE (R31, R32). -/
theorem currentDrawn.expiry (drawn : currentDrawn t monitor cache) (r : FrameRecord) :
    currentDrawn t (monitor.set i r) (staleSignals t i cache) := by
  rw [currentDrawn_iff] at drawn ⊢
  intro k g c named entry current
  simp only [staleSignals, mapFrom_getElem?, Option.map_eq_some_iff, Nat.zero_add] at entry
  obtain ⟨before, held, rfl⟩ := entry
  by_cases here : g.frameEntry = i
  · have fromHere : t.drawnFrom i k = true := by simp [Tables.drawnFrom, named, here]
    rw [if_pos fromHere, CacheEntry.staled_not_current] at current
    cases current
  · have other : t.drawnFrom i k = false := by simp [Tables.drawnFrom, named, here]
    rw [other] at current
    rw [List.getElem?_set_ne (Ne.symm here)]
    exact drawn k g before named held current

/-- Timers play no part in R52. -/
theorem currentDrawn.timers (drawn : currentDrawn t monitor cache) (timer : FrameRecord → Option Nat) :
    currentDrawn t (monitor.map fun r => { r with timer := timer r }) cache := by
  rw [currentDrawn_iff] at drawn ⊢
  intro k g c named entry current
  obtain ⟨r, held, arriving⟩ := drawn k g c named entry current
  exact ⟨{ r with timer := timer r }, by rw [List.getElem?_map, held]; rfl, arriving⟩

/-- A signal that a cache holds after an arrival was written by it, or held before (R42, R49). -/
theorem State.cacheAfter_kept (s : State) (v : Verdict) (data : List Byte) (k : Nat) (c : CacheEntry)
    (entry : (s.cacheAfter i v data)[k]? = some c) :
    (v = .fresh ∧ s.working.drawnFrom i k = true) ∨ s.cache[k]? = some c := by
  by_cases written : v = .fresh ∧ s.working.drawnFrom i k = true
  · exact .inl written
  · have unwritten : v ≠ .fresh ∨ s.working.drawnFrom i k = false := by
      by_cases fresh : v = .fresh
      · exact .inr (Bool.eq_false_iff.2 fun drawn => written ⟨fresh, drawn⟩)
      · exact .inl fresh
    have length := s.cacheAfter_length i data v
    have inside : k < s.cache.length := length ▸ (List.getElem?_eq_some_iff.1 entry).1
    have held := List.getElem?_eq_getElem inside
    rw [s.cacheAfter_unwritten i data v held unwritten] at entry
    exact .inr (held.trans entry)

end CurrentSignals

section SignalMoves

variable {c : Instr} {s t : State}

theorem initialMonitor_length (t : Tables) (degraded : Bool) (base : Nat) :
    (initialMonitor t degraded base).length = t.frameList.length := List.length_map ..

theorem stoppedMonitor_length (t : Tables) : (stoppedMonitor t).length = t.frameList.length := List.length_map ..

theorem State.Move.signalsFollowFrames (move : State.Move c s t) (sound : s.signalsFollowFrames) :
    t.signalsFollowFrames := by
  have ⟨records, drawn⟩ := sound
  cases move with
  | port p r next => cases p <;> exact sound
  | arrival i e j data running entry =>
    have inside : i < s.monitor.length := (records running).symm ▸ entry
    have record : s.monitor[i]? = some (s.recordOf i) := by
      rw [State.recordOf, List.getD_eq_getElem?_getD, List.getElem?_eq_getElem inside]; rfl
    refine ⟨fun _ => (List.length_set ..).trans (records running), ?_⟩
    exact currentDrawn.arrival (fresh := j.verdict = .fresh) drawn record
      (FrameRecord.afterArrival_state _ e s.degraded s.now j data) fun k c => s.cacheAfter_kept j.verdict data k c
  | expiry i =>
    exact ⟨fun running => (List.length_set ..).trans (records running), currentDrawn.expiry drawn _⟩
  | beginWrite head rest begins queue =>
    obtain ⟨i, c, b, h⟩ | h | ⟨q, h⟩ := s.beginHead_cases head rest <;> rw [h] <;> exact sound
  | aged w r codes rest write base queue =>
    obtain h | h := s.completeAgeWrite_cases w.slot r (dropAgeCode codes rest) <;> rw [h] <;> exact sound
  | lampStep => obtain ⟨k, due, -, h⟩ := s.advanceStep_cases; rw [h]; exact sound
  | boundary running => obtain ⟨k, e, b, h, -⟩ := s.crossBoundary_cases; rw [h]; exact sound
  | sleep => exact ⟨nofun, drawn⟩
  | reset | wake => exact ⟨nofun, by simp [State.resetModule, State.intoStarting]⟩
  | setUp startup starting =>
    refine ⟨fun running => ?_, currentDrawn_initialCache⟩
    exact absurd (starting.symm.trans running) (by decide)
  | ride u r bulb boards opens =>
    exact ⟨fun _ => initialMonitor_length _ _ _, currentDrawn_initialCache⟩
  | rideEnd u boards =>
    refine ⟨nofun, ?_⟩
    obtain ⟨-, rfl⟩ | ⟨-, -, rfl⟩ := boards <;> exact currentDrawn.timers drawn fun _ => none
  | rest => exact ⟨nofun, drawn⟩
  | install commits consistent =>
    refine ⟨fun _ => ?_, currentDrawn_initialCache⟩
    change (if s.isRunning then initialMonitor s.staging s.degraded s.now else stoppedMonitor s.staging).length = _
    split
    · exact initialMonitor_length _ _ _
    · exact stoppedMonitor_length _
  | _ => exact sound

end SignalMoves

/-- Settles O18: every move keeps the signals on their frames. -/
theorem signalsFollowTheirFrames : Obligations.SignalsFollowTheirFrames := by
  intro c s t sound run
  exact (State.moves_of_exec run).keeps (fun _ _ move => move.signalsFollowFrames) sound

end Sys2Proof.Machine

namespace Sys2Proof.Machine

/-! ## The commit check of R159 says what a consistent entry is (R10, R41, R59, R79) -/

section Checks

variable {t : Tables} {i : Nat}

theorem Settings.consistent_iff (k : Settings) : k.consistent = true ↔ k.sound := by
  simp only [Settings.consistent, Settings.sound, Settings.ownIds, Bool.and_eq_true, decide_eq_true_iff,
    Bool.or_eq_true, Bool.not_eq_true', List.nodup_cons, List.mem_cons, List.not_mem_nil, or_false, not_or,
    not_false_eq_true, List.nodup_nil, and_true, and_assoc, ← imp_iff_not_or, ← Bool.not_eq_true]

theorem FrameEntry.before_iff (d e : FrameEntry) : d.before e = true ↔
    (d.port = .control ∧ e.port = .vehicle) ∨ (d.port = e.port ∧ d.ident < e.ident) := by
  unfold FrameEntry.before
  cases d.port <;> cases e.port <;> simp

theorem Settings.not_mem_ownIds (k : Settings) (n : Nat) : n ∉ k.ownIds ↔
    n ≠ k.requestId ∧ n ≠ k.responseId ∧ n ≠ k.statusId ∧ n ≠ k.reportId := by
  simp [Settings.ownIds]

theorem Tables.frameConsistent_iff (e : FrameEntry) : t.frameConsistent i e = true ↔ t.frameSound i e := by
  unfold Tables.frameConsistent Tables.frameSound
  simp only [Bool.and_eq_true, and_assoc]
  refine and_congr ?order (and_congr ?counter (and_congr ?checksum (and_congr ?bytes (and_congr ?periods ?own))))
  case order =>
    cases i with
    | zero => exact iff_of_true rfl nofun
    | succ k =>
      simp only [Nat.add_right_cancel_iff]
      cases entry : t.frames[k]? with
      | none =>
        refine iff_of_true rfl fun j d same held => ?_
        rw [← same, entry] at held
        cases held
      | some b =>
        refine (b.before_iff e).trans ⟨fun before j d same held => ?_, fun all => all k b rfl entry⟩
        rw [← same, entry] at held
        rwa [← Option.some.inj held]
  case counter => cases e.counterPresent <;> simp
  case checksum => cases e.checksumPresent <;> simp
  case bytes => cases e.counterPresent <;> cases e.checksumPresent <;> simp
  case periods => cases e.timing <;> simp
  case own =>
    rw [← Settings.not_mem_ownIds]
    cases e.port <;> simp

theorem SignalEntry.fits_iff (e : SignalEntry) (f : FrameEntry) : e.fits f = true ↔
    (e.extraction = .bits ∨ e.extraction = .byte → e.bytePos < f.length)
    ∧ (e.extraction = .wordBE ∨ e.extraction = .wordLE → e.bytePos + 1 < f.length ∧ e.bytePos ≤ 6)
    ∧ (e.extraction = .bits → e.bitOffset + e.width ≤ 8) := by
  unfold SignalEntry.fits
  cases e.extraction <;> simp

/-- The raw range of R44 in its two forms. -/
theorem SignalEntry.rawRange_iff (e : SignalEntry) : e.rawMin ≤ e.naRaw ∧ e.naRaw ≤ e.rawMax ↔
    (e.signed = false → 0 ≤ e.naRaw ∧ e.naRaw < 2 ^ e.rawBits)
    ∧ (e.signed = true → -2 ^ (e.rawBits - 1) ≤ e.naRaw ∧ e.naRaw < 2 ^ (e.rawBits - 1)) := by
  unfold SignalEntry.rawMin SignalEntry.rawMax SignalEntry.rawBits
  cases e.extraction <;> cases e.signed <;> simp <;> omega

theorem Tables.signalConsistent_iff (e : SignalEntry) : t.signalConsistent i e = true ↔ t.signalSound e := by
  unfold Tables.signalConsistent Tables.signalSound
  rw [Bool.and_eq_true, Bool.or_eq_true, Bool.not_eq_true', decide_eq_true_iff, SignalEntry.rawRange_iff,
    ← Bool.not_eq_true, ← imp_iff_not_or]
  cases entryAt t.settings.frameCount t.frames e.frameEntry with
  | none => simp
  | some f => simp [SignalEntry.fits_iff, and_assoc]

/-- An entry's property that the entries in use at other indices enter. -/
theorem all_others_iff {α : Type} (n : Nat) (xs : List α) (p : α → Bool) :
    (mapFrom (fun j v => j == i || p v) 0 (inUse n xs)).all id = true
    ↔ ∀ j v, j ≠ i → entryAt n xs j = some v → p v = true := by
  simp only [List.all_eq_true, List.mem_iff_getElem?, mapFrom_getElem?, inUse_getElem?, Option.map_eq_some_iff,
    Nat.zero_add, id_eq]
  constructor
  · intro all j v other entry
    have checked := all _ ⟨j, v, entry, rfl⟩
    simpa [other] using checked
  · rintro all b ⟨j, v, entry, rfl⟩
    by_cases same : j = i
    · simp [same]
    · simp [all j v same entry]

theorem Tables.operandsConsistent_iff (w : WatchEntry) : t.operandsConsistent w = true ↔
    (w.kind = .level ∨ w.kind = .pair → w.signalA < t.settings.signalCount)
    ∧ (w.kind = .pair → w.signalB < t.settings.signalCount)
    ∧ (w.kind = .timing ∨ w.kind = .integrity → w.frameEntry < t.settings.frameCount)
    ∧ (w.kind = .code → ∃ f, entryAt t.settings.frameCount t.frames w.frameEntry = some f ∧ 6 ≤ f.length)
    ∧ (w.kind = .level → w.comparison = .inside ∨ w.comparison = .outside → w.thresholdA ≤ w.thresholdB) := by
  unfold Tables.operandsConsistent
  cases w.kind with
  | level => cases w.comparison <;> simp
  | code => cases entryAt t.settings.frameCount t.frames w.frameEntry <;> simp
  | pair | timing | integrity | port | supply => simp

theorem Tables.gateConsistent_iff (w : WatchEntry) : t.gateConsistent i w = true ↔
    (w.gatePresent = true → w.gateWatch ≠ i
      ∧ ∃ g, entryAt t.settings.watchCount t.watches w.gateWatch = some g ∧ g.gatePresent = false) := by
  unfold Tables.gateConsistent
  cases w.gatePresent with
  | false => simp
  | true => cases entryAt t.settings.watchCount t.watches w.gateWatch <;> simp

theorem Tables.linkConsistent_iff (w : WatchEntry) : t.linkConsistent i w = true ↔
    (w.linkPresent = true → w.link < t.settings.faultCount
      ∧ ∀ j v, j ≠ i → entryAt t.settings.watchCount t.watches j = some v → v.linkPresent = true →
        v.link ≠ w.link) := by
  unfold Tables.linkConsistent Tables.watchList
  have apart : ∀ v : WatchEntry,
      (!(v.linkPresent && v.link == w.link)) = true ↔ (v.linkPresent = true → v.link ≠ w.link) := by
    intro v; cases v.linkPresent <;> simp
  simp only [Bool.or_eq_true, Bool.and_eq_true, all_others_iff, decide_eq_true_iff, Bool.not_eq_true', apart,
    ← Bool.not_eq_true, ← imp_iff_not_or]

theorem Tables.watchConsistent_iff (w : WatchEntry) : t.watchConsistent i w = true ↔ t.watchSound i w := by
  unfold Tables.watchConsistent Tables.watchSound
  rw [Bool.and_eq_true, Bool.and_eq_true, Tables.operandsConsistent_iff, Tables.gateConsistent_iff,
    Tables.linkConsistent_iff]
  simp only [and_assoc]

theorem Tables.faultConsistent_iff (e : FaultEntry) : t.faultConsistent i e = true ↔ t.faultSound i e := by
  unfold Tables.faultConsistent Tables.faultSound Tables.faultList FaultEntry.snapshotList
  rw [Bool.and_eq_true, Bool.and_eq_true, all_others_iff]
  simp [and_assoc]

end Checks

/-! ## The first inconsistent entry (R159) -/

section FirstBad

variable {α : Type} {check : Nat → α → Bool}

theorem firstBad_eq_some (k : Nat) (xs : List α) (n : Nat) : firstBad check k xs = some n ↔
    ∃ i, n = k + i ∧ (∃ x, xs[i]? = some x ∧ check (k + i) x = false)
      ∧ ∀ j, j < i → ∀ x, xs[j]? = some x → check (k + j) x = true := by
  induction xs generalizing k with
  | nil => simp [firstBad]
  | cons x xs ih =>
    unfold firstBad
    cases passes : check k x with
    | false =>
      rw [if_neg (by simp), Option.some.injEq]
      constructor
      · rintro rfl
        exact ⟨0, rfl, ⟨x, rfl, passes⟩, nofun⟩
      · rintro ⟨i, rfl, -, before⟩
        cases i with
        | zero => rfl
        | succ i => exact absurd (before 0 (Nat.succ_pos i) x rfl) (by simp [passes])
    | true =>
      rw [if_pos rfl, ih]
      constructor
      · rintro ⟨i, rfl, ⟨y, entry, bad⟩, before⟩
        refine ⟨i + 1, by omega, ⟨y, entry, by rwa [show k + (i + 1) = k + 1 + i by omega]⟩, fun j lower z at_j => ?_⟩
        cases j with
        | zero =>
          obtain rfl : x = z := Option.some.inj at_j
          exact passes
        | succ j =>
          rw [show k + (j + 1) = k + 1 + j by omega]
          exact before j (by omega) z at_j
      · rintro ⟨i, rfl, ⟨y, entry, bad⟩, before⟩
        cases i with
        | zero =>
          obtain rfl : x = y := Option.some.inj entry
          rw [Nat.add_zero, passes] at bad
          cases bad
        | succ i =>
          refine ⟨i, by omega, ⟨y, entry, by rwa [show k + 1 + i = k + (i + 1) by omega]⟩, fun j lower z at_j => ?_⟩
          rw [show k + 1 + j = k + (j + 1) by omega]
          exact before (j + 1) (by omega) z at_j

/-- The first entry in use that a check refuses, for a check that decides a property of entries. -/
theorem firstBad_inUse {sound : Nat → α → Prop} (decides : ∀ i x, check i x = true ↔ sound i x) (n : Nat) (xs : List α)
    (i : Nat) : firstBad check 0 (inUse n xs) = some i ↔
      (¬ ∀ x, entryAt n xs i = some x → sound i x) ∧ ∀ j < i, ∀ x, entryAt n xs j = some x → sound j x := by
  simp only [firstBad_eq_some, Nat.zero_add, inUse_getElem?, ← decides, not_forall, ← Bool.not_eq_true, exists_prop,
    exists_eq_left']

/-- The first entry of a table that breaks one of its checks. -/
def Tables.firstUnsound (t : Tables) : TableName → Option Nat
  | .settings => if t.settings.consistent then none else some 0
  | .frames => firstBad t.frameConsistent 0 t.frameList
  | .signals => firstBad t.signalConsistent 0 t.signalList
  | .watches => firstBad t.watchConsistent 0 t.watchList
  | .faults => firstBad t.faultConsistent 0 t.faultList

variable (t : Tables)

theorem Tables.firstUnsound_eq_some (n : TableName) (i : Nat) : t.firstUnsound n = some i ↔
    ¬ t.entrySound n i ∧ ∀ j < i, t.entrySound n j := by
  cases n with
  | settings =>
    simp only [Tables.firstUnsound, Tables.entrySound, ← Settings.consistent_iff]
    cases t.settings.consistent with
    | true => simp
    | false =>
      constructor
      · intro h
        obtain rfl : 0 = i := Option.some.inj h
        simp
      · rintro ⟨bad, -⟩
        obtain rfl : i = 0 := by by_contra other; exact bad fun zero => absurd zero other
        rfl
  | frames => exact firstBad_inUse (fun i e => t.frameConsistent_iff (i := i) e) _ _ i
  | signals =>
    exact firstBad_inUse (sound := fun _ e => t.signalSound e) (fun i e => t.signalConsistent_iff (i := i) e) _ _ i
  | watches => exact firstBad_inUse (fun i e => t.watchConsistent_iff (i := i) e) _ _ i
  | faults => exact firstBad_inUse (fun i e => t.faultConsistent_iff (i := i) e) _ _ i

theorem Tables.firstUnsound_eq_none (n : TableName) : t.firstUnsound n = none ↔ ∀ i, t.entrySound n i := by
  constructor
  · intro none
    by_contra unsound
    have some : ∃ i, ¬ t.entrySound n i := not_forall.1 unsound
    classical
    have first := (t.firstUnsound_eq_some n (Nat.find some)).2
      ⟨Nat.find_spec some, fun j lower => not_not.1 (Nat.find_min some lower)⟩
    rw [none] at first
    cases first
  · intro sound
    cases first : t.firstUnsound n with
    | none => rfl
    | some i => exact absurd (sound i) ((t.firstUnsound_eq_some n i).1 first).1

/-- The commit check goes through the tables in the order of their codes (R159, R181). -/
theorem Tables.inconsistency_eq : t.inconsistency =
    [TableName.settings, .frames, .signals, .watches, .faults].findSome? fun n => (t.firstUnsound n).map (n, ·) := by
  unfold Tables.inconsistency
  simp only [List.findSome?, Tables.firstUnsound]
  cases t.settings.consistent
  · rfl
  · simp only [Bool.not_true, Bool.false_eq_true, if_false, if_true, Option.map_none]
    cases firstBad t.frameConsistent 0 t.frameList <;> simp only [Option.map_none, Option.map_some]
    cases firstBad t.signalConsistent 0 t.signalList <;> simp only [Option.map_none, Option.map_some]
    cases firstBad t.watchConsistent 0 t.watchList <;> simp only [Option.map_none, Option.map_some]
    cases firstBad t.faultConsistent 0 t.faultList <;> rfl

theorem Tables.inconsistency_eq_none : t.inconsistency = none ↔ t.sound := by
  rw [Tables.inconsistency_eq, List.findSome?_eq_none_iff]
  simp only [Option.map_eq_none_iff, Tables.firstUnsound_eq_none, Tables.sound]
  constructor
  · intro all n
    exact all n (by cases n <;> decide)
  · exact fun sound n _ => sound n

theorem Tables.inconsistency_eq_some (n : TableName) (i : Nat) : t.inconsistency = some (n, i) ↔
    ¬ t.entrySound n i ∧ ∀ m j, m.code < n.code ∨ (m = n ∧ j < i) → t.entrySound m j := by
  have ordered : t.inconsistency = some (n, i) ↔
      t.firstUnsound n = some i ∧ ∀ m, m.code < n.code → t.firstUnsound m = none := by
    rw [Tables.inconsistency_eq]
    have step : ∀ (m : TableName) (ms : List TableName),
        (m :: ms).findSome? (fun n => (t.firstUnsound n).map (n, ·)) = some (n, i) ↔
          (m = n ∧ t.firstUnsound n = some i)
          ∨ (t.firstUnsound m = none ∧ ms.findSome? (fun n => (t.firstUnsound n).map (n, ·)) = some (n, i)) := by
      intro m ms
      rw [List.findSome?_cons]
      cases first : t.firstUnsound m with
      | none =>
        simp only [Option.map_none, true_and]
        refine (or_iff_right ?_).symm
        rintro ⟨rfl, some⟩
        rw [first] at some; cases some
      | some j =>
        simp only [Option.map_some, Option.some.injEq, Prod.mk.injEq, reduceCtorEq, false_and, or_false]
        refine and_congr_right ?_
        rintro rfl
        rw [first, Option.some.injEq]
    have all : (∀ m : TableName, m.code < n.code → t.firstUnsound m = none) ↔
        (TableName.settings.code < n.code → t.firstUnsound .settings = none)
        ∧ (TableName.frames.code < n.code → t.firstUnsound .frames = none)
        ∧ (TableName.signals.code < n.code → t.firstUnsound .signals = none)
        ∧ (TableName.watches.code < n.code → t.firstUnsound .watches = none)
        ∧ (TableName.faults.code < n.code → t.firstUnsound .faults = none) :=
      ⟨fun h => ⟨h _, h _, h _, h _, h _⟩, fun ⟨a, b, c, d, e⟩ m => by cases m <;> assumption⟩
    rw [all]
    simp only [step, List.findSome?_nil, reduceCtorEq, and_false, or_false]
    cases n <;> simp [TableName.code, and_comm, and_left_comm, and_assoc]
  rw [ordered, Tables.firstUnsound_eq_some]
  simp only [Tables.firstUnsound_eq_none]
  constructor
  · rintro ⟨⟨bad, before⟩, tables⟩
    refine ⟨bad, fun m j earlier => ?_⟩
    obtain lower | ⟨rfl, lower⟩ := earlier
    · exact tables m lower j
    · exact before j lower
  · rintro ⟨bad, earlier⟩
    exact ⟨⟨bad, fun j lower => earlier n j (.inr ⟨rfl, lower⟩)⟩, fun m lower j => earlier m j (.inl lower)⟩

/-- The default tables are consistent: no entry is in use (R155). -/
theorem Tables.sound_default : Tables.default.sound := by
  rw [← Tables.inconsistency_eq_none]
  rfl

end FirstBad

/-! ## The tables, along every move (R155, R158, R160, R161) -/

section TableMoves

variable {c : Instr} {s t : State}

/-- The working tables change at a start and at a COMMIT alone. -/
theorem State.Move.working (move : State.Move c s t) :
    t.working = s.working ∨ c = .startup ∨ Instr.commits c := by
  cases move with
  | port p r next => exact .inl (s.setPort_working p r)
  | beginWrite head rest begins queue =>
    obtain ⟨i, c, b, h⟩ | h | ⟨q, h⟩ := s.beginHead_cases head rest <;> rw [h] <;> exact .inl rfl
  | aged w r codes rest write base queue =>
    obtain h | h := s.completeAgeWrite_cases w.slot r (dropAgeCode codes rest) <;> rw [h] <;> exact .inl rfl
  | lampStep => obtain ⟨k, due, -, h⟩ := s.advanceStep_cases; rw [h]; exact .inl rfl
  | boundary running => obtain ⟨k, e, b, h, -⟩ := s.crossBoundary_cases; rw [h]; exact .inl rfl
  | setUp startup starting => exact .inr (.inl startup)
  | ride u r bulb boards opens => obtain ⟨-, rfl⟩ | ⟨-, -, rfl⟩ := boards <;> exact .inl rfl
  | rideEnd u boards => obtain ⟨-, rfl⟩ | ⟨-, -, rfl⟩ := boards <;> exact .inl rfl
  | install commits consistent => exact .inr (.inr commits)
  | _ => exact .inl rfl

theorem Store.sound_afterReset {x : Store} (sound : x.state ≠ .invalid → x.tables.sound) :
    x.afterReset.state ≠ .invalid → x.afterReset.tables.sound := by
  unfold Store.afterReset
  cases state : x.state with
  | writing => exact fun valid => absurd rfl valid
  | valid => exact fun _ => sound (by simp [state])
  | invalid => exact fun valid => absurd state valid

theorem Store.sound_startTables {x : Store} (sound : x.state ≠ .invalid → x.tables.sound) : x.startTables.sound := by
  unfold Store.startTables
  split
  · next valid => exact sound (by simp [valid])
  · exact Tables.sound_default

theorem State.Move.tablesSound (move : State.Move c s t) (sound : s.tablesSound) : t.tablesSound := by
  have ⟨working, store⟩ := sound
  cases move with
  | port p r next => cases p <;> exact sound
  | beginWrite head rest begins queue =>
    obtain ⟨i, c, b, h⟩ | h | ⟨q, h⟩ := s.beginHead_cases head rest <;> rw [h] <;> exact sound
  | aged w r codes rest write base queue =>
    obtain h | h := s.completeAgeWrite_cases w.slot r (dropAgeCode codes rest) <;> rw [h] <;> exact sound
  | lampStep => obtain ⟨k, due, -, h⟩ := s.advanceStep_cases; rw [h]; exact sound
  | boundary running => obtain ⟨k, e, b, h, -⟩ := s.crossBoundary_cases; rw [h]; exact sound
  | reset kind => exact ⟨working, Store.sound_afterReset store⟩
  | setUp startup starting => exact ⟨Store.sound_startTables store, store⟩
  | ride u r bulb boards opens => obtain ⟨-, rfl⟩ | ⟨-, -, rfl⟩ := boards <;> exact sound
  | rideEnd u boards => obtain ⟨-, rfl⟩ | ⟨-, -, rfl⟩ := boards <;> exact sound
  | abort => exact ⟨working, fun valid => absurd rfl valid⟩
  | stored writing => exact ⟨working, fun _ => store (by simp [writing])⟩
  | install commits consistent =>
    have staging := s.staging.inconsistency_eq_none.1 consistent
    exact ⟨staging, fun _ => staging⟩
  | _ => exact sound

end TableMoves

/-- Settles O35: the moves that change the working tables are the start's and the commit's, and every move keeps the
tables consistent. -/
theorem workingTablesChangeAtCommitAndStartAndStayConsistent :
    Obligations.WorkingTablesChangeAtCommitAndStartAndStayConsistent := by
  refine ⟨fun c s t run changed => ?_, fun c s t sound run => ?_⟩
  · have origin := (State.moves_of_exec run).keeps
      (P := fun u => u.working = s.working ∨ c = .startup ∨ Instr.commits c)
      (fun _ _ move before => move.working.elim (fun same => before.imp_left same.trans) .inr) (.inl rfl)
    obtain same | startup | commit | request := origin
    · exact absurd same changed
    · exact .inr (.inl startup)
    · exact .inl commit
    · exact .inr (.inr request)
  · exact (State.moves_of_exec run).keeps (fun _ _ move => move.tablesSound) sound

end Sys2Proof.Machine

namespace Sys2Proof.Machine

/-! ## The slots that a write may concern (R101, R108, R112, R113) -/

section SlotSearch

variable {slots : List Slot} {code i : Nat}

/-- The first index at which a test holds, read by index. -/
theorem findIdx?_getElem? {α : Type} {xs : List α} {p : α → Bool} {i : Nat} (found : xs.findIdx? p = some i) :
    ∃ x, xs[i]? = some x ∧ p x = true ∧ ∀ k y, k < i → xs[k]? = some y → p y = false := by
  obtain ⟨inside, holds, before⟩ := List.findIdx?_eq_some_iff_getElem.1 found
  refine ⟨xs[i], List.getElem?_eq_getElem inside, holds, fun k y lower entry => ?_⟩
  obtain ⟨_, rfl⟩ := List.getElem?_eq_some_iff.1 entry
  exact Bool.eq_false_iff.2 (before k lower)

theorem findIdx?_exists {α : Type} {xs : List α} {p : α → Bool} (passes : ∃ x ∈ xs, p x = true) :
    ∃ i, xs.findIdx? p = some i := by
  obtain ⟨x, member, holds⟩ := passes
  cases found : xs.findIdx? p with
  | some i => exact ⟨i, rfl⟩
  | none => simp [List.findIdx?_eq_none_iff.1 found x member] at holds

theorem Slot.record_eq_some (x : Slot) (r : Record) : x.record = some r ↔ x = .active r ∨ x = .stored r := by
  cases x <;> simp [Slot.record]

theorem Slot.storedRecord_eq_some (x : Slot) (r : Record) : x.storedRecord = some r ↔ x = .stored r := by
  cases x <;> simp [Slot.storedRecord]

theorem Slot.weakerActive_eq_some (severity : Nat) (x : Slot) (r : Record) :
    x.weakerActive severity = some r ↔ x = .active r ∧ r.severity < severity := by
  cases x with
  | active q =>
    simp only [Slot.weakerActive, Slot.activeRecord, Slot.active.injEq, Option.ite_none_right_eq_some,
      Option.some.injEq]
    constructor
    · rintro ⟨lower, rfl⟩; exact ⟨rfl, lower⟩
    · rintro ⟨rfl, lower⟩; exact ⟨lower, rfl⟩
  | empty | writing | stored => simp [Slot.weakerActive, Slot.activeRecord]

theorem Slot.holds_iff (x : Slot) : x.holds code = true ↔ ∃ r, (x = .active r ∨ x = .stored r) ∧ r.code = code := by
  cases x <;> simp [Slot.holds, Slot.record]

theorem Slot.isEmpty_iff (x : Slot) : x.isEmpty = true ↔ x = .empty := by
  cases x <;> simp [Slot.isEmpty]

theorem Slot.activeWith_iff (x : Slot) : x.activeWith code = true ↔ ∃ r, x = .active r ∧ r.code = code := by
  cases x <;> simp [Slot.activeWith]

theorem Slot.storedWith_iff (x : Slot) : x.storedWith code = true ↔ ∃ r, x = .stored r ∧ r.code = code := by
  cases x <;> simp [Slot.storedWith]

/-! ### The record to displace (R108) -/

/-- The order in which records are displaced (R108). -/
theorem Record.yieldsBefore_iff (a b : Record) : a.yieldsBefore b = true ↔
    a.severity < b.severity ∨ (a.severity = b.severity ∧
      (a.last.ride < b.last.ride ∨ (a.last.ride = b.last.ride ∧ a.last.time < b.last.time))) := by
  simp [Record.yieldsBefore, Stamp.older]

/-- A record that goes before one which no other goes before, goes before those others. -/
theorem Record.yieldsBefore_of_not {a b c : Record} (first : a.yieldsBefore b = true)
    (last : c.yieldsBefore b = false) : a.yieldsBefore c = true := by
  rw [← Bool.not_eq_true, Record.yieldsBefore_iff] at last
  rw [Record.yieldsBefore_iff] at first ⊢
  omega

theorem Record.yieldsBefore_asymm {a b : Record} (first : a.yieldsBefore b = true) : b.yieldsBefore a = false := by
  rw [Record.yieldsBefore_iff] at first
  rw [← Bool.not_eq_true, Record.yieldsBefore_iff]
  omega

/-- The choice among the first `n` slots of those that `pick` admits: none is admitted, or the one that goes before
every other, the lowest-numbered among equals. -/
def chosenAmong (pick : Slot → Option Record) (slots : List Slot) (n : Nat) : Option (Nat × Record) → Prop
  | none => ∀ k x, k < n → slots[k]? = some x → pick x = none
  | some (i, r) => i < n ∧ (∃ x, slots[i]? = some x ∧ pick x = some r)
    ∧ ∀ k x q, k < n → slots[k]? = some x → pick x = some q →
      q.yieldsBefore r = false ∧ (k < i → r.yieldsBefore q = true)

variable {pick : Slot → Option Record} {n : Nat}

theorem chosenAmong_skip {best : Option (Nat × Record)} {x : Slot} (chosen : chosenAmong pick slots n best)
    (entry : slots[n]? = some x) (refused : pick x = none) : chosenAmong pick slots (n + 1) best := by
  have reached : ∀ k y, k < n + 1 → slots[k]? = some y → pick y ≠ none → k < n := by
    intro k y bound held admitted
    refine (Nat.lt_succ_iff_lt_or_eq.1 bound).resolve_right ?_
    rintro rfl
    exact admitted (Option.some.inj (entry.symm.trans held) ▸ refused)
  cases best with
  | none =>
    intro k y bound held
    by_contra admitted
    exact admitted (chosen k y (reached k y bound held admitted) held)
  | some b =>
    obtain ⟨bound, from_slot, first⟩ := chosen
    exact ⟨bound.trans (Nat.lt_succ_self n), from_slot, fun k y q bound held admitted =>
      first k y q (reached k y bound held (by simp [admitted])) held admitted⟩

/-- A record that goes before the choice so far takes its place. -/
theorem chosenAmong_take {best : Option (Nat × Record)} {x : Slot} {r : Record}
    (chosen : chosenAmong pick slots n best) (entry : slots[n]? = some x) (admitted : pick x = some r)
    (first : ∀ b, best = some b → r.yieldsBefore b.2 = true) : chosenAmong pick slots (n + 1) (some (n, r)) := by
  refine ⟨Nat.lt_succ_self n, ⟨x, entry, admitted⟩, fun k y q bound held taken => ?_⟩
  obtain lower | rfl := Nat.lt_succ_iff_lt_or_eq.1 bound
  · have before : r.yieldsBefore q = true := by
      cases best with
      | none => simp [chosen k y lower held] at taken
      | some b => exact Record.yieldsBefore_of_not (first b rfl) (chosen.2.2 k y q lower held taken).1
    exact ⟨Record.yieldsBefore_asymm before, fun _ => before⟩
  · obtain rfl : x = y := Option.some.inj (entry.symm.trans held)
    obtain rfl : r = q := Option.some.inj (admitted.symm.trans taken)
    refine ⟨?_, fun less => absurd less (Nat.lt_irrefl _)⟩
    rw [← Bool.not_eq_true, Record.yieldsBefore_iff]
    omega

/-- A record that does not go before the choice so far leaves it. -/
theorem chosenAmong_keep {j : Nat} {b r : Record} {x : Slot} (chosen : chosenAmong pick slots n (some (j, b)))
    (entry : slots[n]? = some x) (admitted : pick x = some r) (later : r.yieldsBefore b = false) :
    chosenAmong pick slots (n + 1) (some (j, b)) := by
  obtain ⟨bound, from_slot, first⟩ := chosen
  refine ⟨bound.trans (Nat.lt_succ_self n), from_slot, fun k y q below held taken => ?_⟩
  obtain lower | rfl := Nat.lt_succ_iff_lt_or_eq.1 below
  · exact first k y q lower held taken
  · obtain rfl : x = y := Option.some.inj (entry.symm.trans held)
    obtain rfl : r = q := Option.some.inj (admitted.symm.trans taken)
    exact ⟨later, fun less => absurd less (Nat.not_lt.2 bound.le)⟩

theorem victim_chosen_from (front back : List Slot) (best : Option (Nat × Record))
    (chosen : chosenAmong pick (front ++ back) front.length best) :
    chosenAmong pick (front ++ back) (front ++ back).length (victim pick front.length best back) := by
  induction back generalizing front best with
  | nil => simpa [victim] using chosen
  | cons x back ih =>
    have entry : (front ++ x :: back)[front.length]? = some x := by simp
    have whole : front ++ x :: back = (front ++ [x]) ++ back := by simp
    have next := ih (front ++ [x])
    rw [← whole, List.length_append, List.length_singleton] at next
    unfold victim
    split
    · next r b admitted =>
      split
      · next first =>
        exact next _ (chosenAmong_take chosen entry admitted fun c same => Option.some.inj same ▸ first)
      · next later => exact next _ (chosenAmong_keep chosen entry admitted (Bool.eq_false_iff.2 later))
    · next r admitted => exact next _ (chosenAmong_take chosen entry admitted nofun)
    · next refused => exact next _ (chosenAmong_skip chosen entry refused)

/-- The search for a record to displace chooses among all slots (R108). -/
theorem victim_chosen (pick : Slot → Option Record) (slots : List Slot) :
    chosenAmong pick slots slots.length (victim pick 0 none slots) :=
  victim_chosen_from [] slots none nofun

theorem victim_eq_some {r : Record} (chosen : victim pick 0 none slots = some (i, r)) :
    (∃ x, slots[i]? = some x ∧ pick x = some r)
    ∧ ∀ (k : Nat) (x : Slot) (q : Record), slots[k]? = some x → pick x = some q →
      q.yieldsBefore r = false ∧ (k < i → r.yieldsBefore q = true) := by
  have all := victim_chosen pick slots
  rw [chosen] at all
  obtain ⟨-, from_slot, first⟩ := all
  exact ⟨from_slot, fun k x q entry => first k x q (List.getElem?_eq_some_iff.1 entry).1 entry⟩

theorem victim_eq_none : victim pick 0 none slots = none ↔ ∀ x ∈ slots, pick x = none := by
  have all := victim_chosen pick slots
  constructor
  · intro none x member
    rw [none] at all
    obtain ⟨k, entry⟩ := List.mem_iff_getElem?.1 member
    exact all k x (List.getElem?_eq_some_iff.1 entry).1 entry
  · intro refused
    cases chosen : victim pick 0 none slots with
    | none => rfl
    | some b =>
      rw [chosen] at all
      obtain ⟨-, ⟨x, entry, admitted⟩, -⟩ := all
      simp [refused x (List.mem_of_getElem? entry)] at admitted

theorem victim_exists {x : Slot} {r : Record} (member : x ∈ slots) (admitted : pick x = some r) :
    ∃ j q, victim pick 0 none slots = some (j, q) := by
  cases chosen : victim pick 0 none slots with
  | some b => exact ⟨b.1, b.2, rfl⟩
  | none => simp [victim_eq_none.1 chosen x member] at admitted

/-! ### The four steps of a CONFIRM (R108) -/

variable {e : ConfirmEntry}

theorem confirmSlot_of_held (held : ∃ y ∈ slots, y.holds e.code = true) :
    ∃ i r, confirmSlot slots e = some (i, some r) ∧ r.code = e.code
      ∧ (slots[i]? = some (.active r) ∨ slots[i]? = some (.stored r)) := by
  obtain ⟨i, found⟩ := findIdx?_exists held
  obtain ⟨y, entry, holds, -⟩ := findIdx?_getElem? found
  obtain ⟨r, shape, code⟩ := y.holds_iff.1 holds
  refine ⟨i, r, ?_, code, shape.imp (entry.trans <| congrArg some ·) (entry.trans <| congrArg some ·)⟩
  unfold confirmSlot
  rw [found]
  simp [entry, (y.record_eq_some r).2 shape]

theorem not_held_iff : (∀ y ∈ slots, ¬ ∃ r, (y = .active r ∨ y = .stored r) ∧ r.code = code)
    ↔ slots.findIdx? (Slot.holds code) = none := by
  simp only [List.findIdx?_eq_none_iff, ← Slot.holds_iff, Bool.not_eq_true]

theorem no_empty_iff : Slot.empty ∉ slots ↔ slots.findIdx? Slot.isEmpty = none := by
  simp only [List.findIdx?_eq_none_iff, ← Bool.not_eq_true, Slot.isEmpty_iff]
  exact ⟨fun none x member empty => none (empty ▸ member), fun none member => none _ member rfl⟩

theorem confirmSlot_of_empty (free : slots.findIdx? (Slot.holds e.code) = none) (empty : .empty ∈ slots) :
    ∃ i, confirmSlot slots e = some (i, none) ∧ slots[i]? = some .empty ∧ ∀ k, k < i → slots[k]? ≠ some .empty := by
  obtain ⟨i, found⟩ := findIdx?_exists ⟨_, empty, (Slot.isEmpty_iff _).2 rfl⟩
  obtain ⟨y, entry, isEmpty, before⟩ := findIdx?_getElem? found
  rw [y.isEmpty_iff.1 isEmpty] at entry
  refine ⟨i, ?_, entry, fun k lower held => by cases before k _ lower held⟩
  unfold confirmSlot
  rw [free, found]

theorem confirmSlot_of_stored (free : slots.findIdx? (Slot.holds e.code) = none)
    (full : slots.findIdx? Slot.isEmpty = none) {r : Record}
    (chosen : victim Slot.storedRecord 0 none slots = some (i, r)) : confirmSlot slots e = some (i, none) := by
  unfold confirmSlot
  rw [free, full, chosen]

theorem confirmSlot_of_weaker (free : slots.findIdx? (Slot.holds e.code) = none)
    (full : slots.findIdx? Slot.isEmpty = none) (active : victim Slot.storedRecord 0 none slots = none) {r : Record}
    (chosen : victim (Slot.weakerActive e.severity) 0 none slots = some (i, r)) :
    confirmSlot slots e = some (i, none) := by
  unfold confirmSlot
  rw [free, full, active, chosen]

theorem confirmSlot_eq_none (free : slots.findIdx? (Slot.holds e.code) = none)
    (full : slots.findIdx? Slot.isEmpty = none) (active : victim Slot.storedRecord 0 none slots = none)
    (strong : victim (Slot.weakerActive e.severity) 0 none slots = none) : confirmSlot slots e = none := by
  unfold confirmSlot
  rw [free, full, active, strong]

theorem no_stored_iff : (∀ r, Slot.stored r ∉ slots) ↔ victim Slot.storedRecord 0 none slots = none := by
  rw [victim_eq_none]
  constructor
  · intro none x member
    cases x with
    | stored r => exact absurd member (none r)
    | empty | writing | active => rfl
  · intro none r member
    cases none _ member

/-- The slot that a CONFIRM takes: the one of its code, or one of a memory that does not hold its code (R108). -/
theorem confirmSlot_cases {base : Option Record} (found : confirmSlot slots e = some (i, base)) :
    (∃ r, base = some r ∧ r.code = e.code ∧ (slots[i]? = some (.active r) ∨ slots[i]? = some (.stored r)))
    ∨ (base = none ∧ (∀ y ∈ slots, y.holds e.code = false) ∧ i < slots.length) := by
  by_cases held : ∃ y ∈ slots, y.holds e.code = true
  · obtain ⟨j, r, search, code, entry⟩ := confirmSlot_of_held held
    obtain ⟨rfl, rfl⟩ := Prod.mk.inj (Option.some.inj (search.symm.trans found))
    exact .inl ⟨r, rfl, code, entry⟩
  · have other : ∀ y ∈ slots, y.holds e.code = false := fun y member =>
      Bool.eq_false_iff.2 fun holds => held ⟨y, member, holds⟩
    have taken : base = none ∧ i < slots.length := by
      unfold confirmSlot at found
      rw [List.findIdx?_eq_none_iff.2 other] at found
      dsimp only at found
      split at found
      · next j empty =>
        obtain ⟨rfl, rfl⟩ := Prod.mk.inj (Option.some.inj found)
        exact ⟨rfl, (List.findIdx?_eq_some_iff_getElem.1 empty).1⟩
      · split at found
        · next j r chosen =>
          obtain ⟨rfl, rfl⟩ := Prod.mk.inj (Option.some.inj found)
          obtain ⟨⟨x, entry, -⟩, -⟩ := victim_eq_some chosen
          exact ⟨rfl, (List.getElem?_eq_some_iff.1 entry).1⟩
        · split at found
          · next j r chosen =>
            obtain ⟨rfl, rfl⟩ := Prod.mk.inj (Option.some.inj found)
            obtain ⟨⟨x, entry, -⟩, -⟩ := victim_eq_some chosen
            exact ⟨rfl, (List.getElem?_eq_some_iff.1 entry).1⟩
          · cases found
    exact .inr ⟨taken.1, other, taken.2⟩

/-! ### The slots of a HEAL and of an AGE code (R112, R113, R115) -/

theorem healSlot_eq_some {r : Record} (found : healSlot slots code = some (i, r)) :
    slots[i]? = some (.active r) ∧ r.code = code := by
  unfold healSlot at found
  split at found
  · next j first =>
    obtain ⟨x, entry, holds, -⟩ := findIdx?_getElem? first
    obtain ⟨q, rfl, same⟩ := x.activeWith_iff.1 holds
    simp only [entry, Option.bind_some, Slot.activeRecord, Option.map_some, Option.some.injEq, Prod.mk.injEq] at found
    obtain ⟨rfl, rfl⟩ := found
    exact ⟨entry, same⟩
  · cases found

theorem healSlot_of_active {r : Record} (member : .active r ∈ slots) (same : r.code = code) :
    ∃ i q, healSlot slots code = some (i, q) := by
  obtain ⟨i, first⟩ := findIdx?_exists ⟨_, member, (Slot.activeWith_iff _).2 ⟨r, rfl, same⟩⟩
  obtain ⟨x, entry, holds, -⟩ := findIdx?_getElem? first
  obtain ⟨q, rfl, -⟩ := x.activeWith_iff.1 holds
  exact ⟨i, q, by simp [healSlot, first, entry, Slot.activeRecord]⟩

theorem healSlot_eq_none (absent : ∀ r, Slot.active r ∈ slots → r.code ≠ code) : healSlot slots code = none := by
  cases found : healSlot slots code with
  | none => rfl
  | some x =>
    obtain ⟨entry, same⟩ := healSlot_eq_some (i := x.1) (r := x.2) found
    exact absurd same (absent _ (List.mem_of_getElem? entry))

variable {t : Tables}

theorem ageSlot_eq_some {r : Record} (found : ageSlot t slots code = some (i, r)) :
    (t.faultOf code).isSome = true ∧ slots[i]? = some (.stored r) ∧ r.code = code := by
  unfold ageSlot at found
  split at found
  · next working =>
    split at found
    · next j first =>
      obtain ⟨x, entry, holds, -⟩ := findIdx?_getElem? first
      obtain ⟨q, rfl, same⟩ := x.storedWith_iff.1 holds
      simp only [entry, Option.bind_some, Slot.storedRecord, Option.map_some, Option.some.injEq, Prod.mk.injEq] at found
      obtain ⟨rfl, rfl⟩ := found
      exact ⟨working, entry, same⟩
    · cases found
  · cases found

theorem ageSlot_of_stored {r : Record} (working : (t.faultOf code).isSome = true) (member : .stored r ∈ slots)
    (same : r.code = code) : ∃ i q, ageSlot t slots code = some (i, q) := by
  obtain ⟨i, first⟩ := findIdx?_exists ⟨_, member, (Slot.storedWith_iff _).2 ⟨r, rfl, same⟩⟩
  obtain ⟨x, entry, holds, -⟩ := findIdx?_getElem? first
  obtain ⟨q, rfl, -⟩ := x.storedWith_iff.1 holds
  exact ⟨i, q, by simp [ageSlot, working, first, entry, Slot.storedRecord]⟩

theorem ageSlot_eq_none (absent : (∀ r, Slot.stored r ∈ slots → r.code ≠ code) ∨ t.faultOf code = none) :
    ageSlot t slots code = none := by
  cases found : ageSlot t slots code with
  | none => rfl
  | some x =>
    obtain ⟨working, entry, same⟩ := ageSlot_eq_some (i := x.1) (r := x.2) found
    obtain notHeld | orphan := absent
    · exact absurd same (notHeld _ (List.mem_of_getElem? entry))
    · simp [orphan] at working

/-- The working fault of a code (R78). -/
theorem Tables.faultOf_eq_none : t.faultOf code = none ↔ ∀ e ∈ t.faultList, e.code ≠ code := by
  simp [Tables.faultOf, List.find?_eq_none]

theorem Tables.faultOf_eq_some {e : FaultEntry} (found : t.faultOf code = some e) : e ∈ t.faultList ∧ e.code = code :=
  ⟨List.mem_of_find?_eq_some found, by simpa using List.find?_some found⟩

end SlotSearch

/-- Settles O27: the four steps of the search, each with what `victim` chooses among the slots it admits. -/
theorem slotSearchFollowsItsFourSteps : Obligations.SlotSearchFollowsItsFourSteps := by
  intro slots x
  dsimp only
  simp only [← Record.yieldsBefore_iff, Bool.not_eq_true]
  refine ⟨fun held => ?_, fun free empty => ?_, fun free full stored => ?_, fun free full active weaker => ?_,
    fun free full active strong => ?_⟩
  · simp only [← Slot.holds_iff] at held
    exact confirmSlot_of_held held
  · exact confirmSlot_of_empty (not_held_iff.1 free) empty
  · obtain ⟨r, member⟩ := stored
    obtain ⟨j, q, chosen⟩ := victim_exists member ((Slot.storedRecord_eq_some _ r).2 rfl)
    obtain ⟨⟨y, entry, admitted⟩, first⟩ := victim_eq_some chosen
    rw [(y.storedRecord_eq_some q).1 admitted] at entry
    exact ⟨j, q, confirmSlot_of_stored (not_held_iff.1 free) (no_empty_iff.1 full) chosen, entry,
      fun k p held => first k _ p held rfl⟩
  · obtain ⟨r, member, lower⟩ := weaker
    obtain ⟨j, q, chosen⟩ := victim_exists member ((Slot.weakerActive_eq_some x.severity _ r).2 ⟨rfl, lower⟩)
    obtain ⟨⟨y, entry, admitted⟩, first⟩ := victim_eq_some chosen
    obtain ⟨rfl, below⟩ := (y.weakerActive_eq_some x.severity q).1 admitted
    exact ⟨j, q, confirmSlot_of_weaker (not_held_iff.1 free) (no_empty_iff.1 full) (no_stored_iff.1 active) chosen,
      entry, below, fun k p held less => first k _ p held ((Slot.weakerActive_eq_some _ _ p).2 ⟨rfl, less⟩)⟩
  · refine confirmSlot_eq_none (not_held_iff.1 free) (no_empty_iff.1 full) (no_stored_iff.1 active) ?_
    refine victim_eq_none.2 fun y member => ?_
    cases admitted : y.weakerActive x.severity with
    | none => rfl
    | some r =>
      obtain ⟨rfl, below⟩ := (y.weakerActive_eq_some x.severity r).1 admitted
      exact absurd below (Nat.not_lt.2 (strong r member))

end Sys2Proof.Machine

namespace Sys2Proof.Machine

/-! ## The slots of the fault memory (R101, R102, R108) -/

section Slots

variable {slots : List Slot} {i code : Nat} {x : Slot}

/-- No two slots that are not EMPTY hold one code (R108). -/
def codesDistinct (slots : List Slot) : Prop :=
  ∀ (i j c : Nat), slots[i]?.bind Slot.codeOf = some c → slots[j]?.bind Slot.codeOf = some c → i = j

theorem nodup_codeOf_iff : (slots.filterMap Slot.codeOf).Nodup ↔ codesDistinct slots := by
  unfold List.Nodup
  rw [List.pairwise_filterMap, List.pairwise_iff_getElem]
  constructor
  · intro apart i j c atI atJ
    obtain ⟨a, heldA, codeA⟩ := Option.bind_eq_some_iff.1 atI
    obtain ⟨b, heldB, codeB⟩ := Option.bind_eq_some_iff.1 atJ
    obtain ⟨hi, rfl⟩ := List.getElem?_eq_some_iff.1 heldA
    obtain ⟨hj, rfl⟩ := List.getElem?_eq_some_iff.1 heldB
    obtain less | same | more := Nat.lt_trichotomy i j
    · exact absurd rfl (apart i j hi hj less c codeA c codeB)
    · exact same
    · exact absurd rfl (apart j i hj hi more c codeB c codeA)
  · rintro distinct i j hi hj less c codeA _ codeB rfl
    refine absurd (distinct i j c ?_ ?_) less.ne
    · rw [List.getElem?_eq_getElem hi]; exact codeA
    · rw [List.getElem?_eq_getElem hj]; exact codeB

/-- A slot that takes a code that no other slot holds, or none, keeps the codes distinct. -/
theorem codesDistinct.set (distinct : codesDistinct slots)
    (fresh : ∀ c, x.codeOf = some c → ∀ k, k ≠ i → slots[k]?.bind Slot.codeOf ≠ some c) :
    codesDistinct (slots.set i x) := by
  have away : ∀ k c, k ≠ i → (slots.set i x)[k]?.bind Slot.codeOf = some c → slots[k]?.bind Slot.codeOf = some c :=
    fun k c other held => by rwa [List.getElem?_set_ne (Ne.symm other)] at held
  have here : ∀ c, (slots.set i x)[i]?.bind Slot.codeOf = some c → x.codeOf = some c := by
    intro c held
    obtain ⟨y, entry, code⟩ := Option.bind_eq_some_iff.1 held
    obtain ⟨inside, rfl⟩ := List.getElem?_eq_some_iff.1 entry
    rwa [List.getElem_set_self] at code
  intro j k c atJ atK
  by_cases ji : j = i <;> by_cases ki : k = i
  · rw [ji, ki]
  · rw [ji] at atJ
    exact absurd (away k c ki atK) (fresh c (here c atJ) k ki)
  · rw [ki] at atK
    exact absurd (away j c ji atJ) (fresh c (here c atK) j ji)
  · exact distinct j k c (away j c ji atJ) (away k c ki atK)

/-- A slot that keeps its code, or loses it, keeps the codes distinct. -/
theorem codesDistinct.set_same (distinct : codesDistinct slots) (held : slots[i]?.bind Slot.codeOf = some code)
    (same : ∀ c, x.codeOf = some c → c = code) : codesDistinct (slots.set i x) :=
  distinct.set fun c holds k other atK => other (distinct k i c atK (same c holds ▸ held))

/-- Slots that keep their codes, or lose them, keep the codes distinct. -/
theorem codesDistinct.map (distinct : codesDistinct slots) {f : Slot → Slot}
    (kept : ∀ x c, (f x).codeOf = some c → x.codeOf = some c) : codesDistinct (slots.map f) := by
  have before : ∀ i c : Nat, (slots.map f)[i]?.bind Slot.codeOf = some c → slots[i]?.bind Slot.codeOf = some c := by
    intro i c held
    obtain ⟨y, entry, code⟩ := Option.bind_eq_some_iff.1 held
    rw [List.getElem?_map, Option.map_eq_some_iff] at entry
    obtain ⟨x, at_i, rfl⟩ := entry
    rw [at_i]; exact kept x c code
  exact fun i j c atI atJ => distinct i j c (before i c atI) (before j c atJ)

/-- How many slots are WRITING. -/
def writingCount (slots : List Slot) : Nat := slots.countP Slot.isWriting

theorem filter_isWriting_length : (slots.filter Slot.isWriting).length = writingCount slots :=
  List.countP_eq_length_filter.symm

theorem any_isWriting_iff : slots.any Slot.isWriting = false ↔ writingCount slots = 0 := by
  simp [writingCount, List.countP_eq_zero]

theorem writingCount_set_le : writingCount (slots.set i x) ≤ writingCount slots + 1 := by
  by_cases inside : i < slots.length
  · unfold writingCount
    rw [List.countP_set inside]
    split <;> split <;> omega
  · rw [List.set_eq_of_length_le (Nat.le_of_not_lt inside)]
    exact Nat.le_succ _

/-- The slot being written is the one WRITING slot, so none is WRITING once it is filled. -/
theorem writingCount_set_of_writing (one : writingCount slots ≤ 1) (held : slots[i]? = some (.writing code))
    (filled : x.isWriting = false) : writingCount (slots.set i x) = 0 := by
  obtain ⟨inside, slot⟩ := List.getElem?_eq_some_iff.1 held
  unfold writingCount at one ⊢
  rw [List.countP_set inside, slot, filled]
  simp only [Slot.isWriting, if_true, Bool.false_eq_true, if_false]
  omega

theorem writingCount_map {f : Slot → Slot} (kept : ∀ x, (f x).isWriting = true → x.isWriting = true) :
    writingCount (slots.map f) ≤ writingCount slots := by
  unfold writingCount
  rw [List.countP_map]
  exact List.countP_mono_left fun x _ => kept x

/-- What R101, R102 and R108 say of the slots. -/
def slotsSound (slots : List Slot) : Prop :=
  slots.length = 32 ∧ codesDistinct slots ∧ ∀ x ∈ slots, x.sound

theorem slotsSound.set (sound : slotsSound slots) (slot : x.sound)
    (fresh : ∀ c, x.codeOf = some c → ∀ k, k ≠ i → slots[k]?.bind Slot.codeOf ≠ some c) :
    slotsSound (slots.set i x) := by
  obtain ⟨length, distinct, records⟩ := sound
  refine ⟨by rwa [List.length_set], distinct.set fresh, fun y member => ?_⟩
  obtain old | rfl := List.mem_or_eq_of_mem_set member
  · exact records y old
  · exact slot

theorem slotsSound.set_same (sound : slotsSound slots) (slot : x.sound)
    (held : slots[i]?.bind Slot.codeOf = some code) (same : ∀ c, x.codeOf = some c → c = code) :
    slotsSound (slots.set i x) :=
  sound.set slot fun c holds k other atK => other (sound.2.1 k i c atK (same c holds ▸ held))

theorem slotsSound.map (sound : slotsSound slots) {f : Slot → Slot}
    (kept : ∀ x, f x = x ∨ f x = .empty) : slotsSound (slots.map f) := by
  obtain ⟨length, distinct, records⟩ := sound
  refine ⟨by rwa [List.length_map], distinct.map fun x c code => ?_, fun y member => ?_⟩
  · obtain same | emptied := kept x
    · rwa [same] at code
    · rw [emptied] at code; cases code
  · obtain ⟨x, old, rfl⟩ := List.mem_map.1 member
    obtain same | emptied := kept x
    · rw [same]; exact records x old
    · rw [emptied]; trivial

theorem slotsSound_replicate : slotsSound (List.replicate 32 .empty) := by
  refine ⟨List.length_replicate, fun i j c held => ?_, fun x member => ?_⟩
  · obtain ⟨y, entry, code⟩ := Option.bind_eq_some_iff.1 held
    rw [List.eq_of_mem_replicate (List.mem_of_getElem? entry)] at code
    cases code
  · rw [List.eq_of_mem_replicate member]; trivial

theorem Slot.freed_cases (x : Slot) : (x.freed = x ∨ x.freed = .empty) ∧ x.freed.isWriting = false := by
  cases x <;> simp [Slot.freed, Slot.isWriting]

theorem Slot.cleared_cases (sel : Nat → Bool) (x : Slot) : x.cleared sel = x ∨ x.cleared sel = .empty := by
  unfold Slot.cleared
  split
  · split
    · exact .inr rfl
    · exact .inl rfl
  · exact .inl rfl

theorem Slot.isWriting_of_cleared (sel : Nat → Bool) (x : Slot) (writing : (x.cleared sel).isWriting = true) :
    x.isWriting = true := by
  obtain same | emptied := x.cleared_cases sel
  · rwa [same] at writing
  · rw [emptied] at writing; cases writing

/-- A memory in which no slot is WRITING and none holds a code in a record, holds the code nowhere. -/
theorem not_codeOf_of_not_holds (quiet : writingCount slots = 0) (free : ∀ y ∈ slots, y.holds code = false) (k : Nat) :
    slots[k]?.bind Slot.codeOf ≠ some code := by
  intro held
  obtain ⟨y, entry, same⟩ := Option.bind_eq_some_iff.1 held
  have member := List.mem_of_getElem? entry
  have none := free y member
  cases y with
  | empty => cases same
  | writing c => simpa [Slot.isWriting] using List.countP_eq_zero.1 quiet _ member
  | active r | stored r => simp [Slot.holds, Slot.record, Option.some.inj same] at none

end Slots

/-! ## Records (R102, R109, R110, R112, R113) -/

section Records

variable {r : Record} {e : ConfirmEntry} {base : Option Record}

/-- What a CONFIRM write leaves is sound: a new record, or the update of a sound one (R109, R110). -/
theorem ConfirmEntry.result_sound (sound : ∀ r, base = some r → r.sound) :
    (Slot.active (e.result base)).sound ∧ (e.result base).code = e.code := by
  cases base with
  | none => exact ⟨⟨⟨Nat.le_refl 1, (by decide : 1 ≤ 255), nofun⟩, rfl⟩, rfl⟩
  | some r =>
    obtain ⟨least, greatest, latest⟩ := sound r rfl
    have occurrences : (e.result (some r)).occurrences = min 255 (r.occurrences + 1) := rfl
    refine ⟨⟨⟨?_, ?_, fun _ => ?_⟩, rfl⟩, rfl⟩ <;> rw [occurrences] <;> omega

end Records

/-! ## The fault memory, along every move (R106, R108, R120) -/

section Memory

variable {s t : State}

/-- The state says of its memory what the statements ask of a memory with the mark. -/
def State.slotsHold (s : State) : Prop :=
  slotsSound s.retained.slots ∧ writingCount s.retained.slots ≤ 1
  ∧ ((s.power = .starting → s.stage = .waitKey) → s.write = none → writingCount s.retained.slots = 0)
  ∧ s.writeAgrees

theorem State.memorySound_iff (s : State) : s.memorySound ↔ (s.retained.mark = true → s.slotsHold) := by
  simp only [State.memorySound, State.slotsHold, slotsSound, nodup_codeOf_iff, filter_isWriting_length,
    any_isWriting_iff]
  refine imp_congr_right fun _ => ⟨?_, ?_⟩
  · rintro ⟨length, distinct, one, quiet, agrees, records⟩
    exact ⟨⟨length, distinct, records⟩, one, quiet, agrees⟩
  · rintro ⟨⟨length, distinct, records⟩, one, quiet, agrees⟩
    exact ⟨length, distinct, one, quiet, agrees, records⟩

theorem State.writeAgrees_of_idle (idle : s.write = none) : s.writeAgrees := by
  unfold State.writeAgrees
  rw [idle]
  trivial

theorem State.writeAgrees_iff {w : SlotWrite} (write : s.write = some w) : s.writeAgrees ↔
    ∃ head rest c, s.writeQueue = head :: rest ∧ head.headCode = some c
      ∧ s.retained.slots[w.slot]? = some (.writing c) ∧ ∀ r, w.base = some r → r.sound ∧ r.code = c := by
  unfold State.writeAgrees
  rw [write]
  dsimp only
  constructor
  · intro agrees
    split at agrees
    · exact agrees.elim
    · next head rest queue =>
      split at agrees
      · exact agrees.elim
      · next c code =>
        obtain ⟨slot, base⟩ := agrees
        refine ⟨head, rest, c, queue, code, slot, fun r held => ?_⟩
        rwa [held] at base
  · rintro ⟨head, rest, c, queue, code, slot, base⟩
    rw [queue]
    dsimp only
    rw [code]
    refine ⟨slot, ?_⟩
    split
    · trivial
    · next r held => exact base r held

/-- Where no slot is WRITING no write is in progress (R106). -/
theorem State.idle_of_quiet (agrees : s.writeAgrees) (quiet : writingCount s.retained.slots = 0) : s.write = none := by
  cases progress : s.write with
  | none => rfl
  | some w =>
    obtain ⟨-, -, c, -, -, slot, -⟩ := (State.writeAgrees_iff progress).1 agrees
    simpa [Slot.isWriting] using List.countP_eq_zero.1 quiet _ (List.mem_of_getElem? slot)

/-- A write goes on agreeing while its slot stays and the queue keeps the code at its head. -/
theorem State.writeAgrees.kept (agrees : s.writeAgrees) (slots : t.retained.slots = s.retained.slots)
    (write : t.write = s.write)
    (queue : ∀ head rest, s.write.isSome = true → s.writeQueue = head :: rest →
      ∃ head' rest', t.writeQueue = head' :: rest' ∧ ∀ c, head.headCode = some c → head'.headCode = some c) :
    t.writeAgrees := by
  cases progress : s.write with
  | none => exact State.writeAgrees_of_idle (write.trans progress)
  | some w =>
    obtain ⟨head, rest, c, first, code, slot, base⟩ := (State.writeAgrees_iff progress).1 agrees
    obtain ⟨head', rest', first', code'⟩ := queue head rest (by rw [progress]; rfl) first
    exact (State.writeAgrees_iff (write.trans progress)).2
      ⟨head', rest', c, first', code' c code, by rw [slots]; exact slot, base⟩

theorem State.writeAgrees.appended (agrees : s.writeAgrees) (slots : t.retained.slots = s.retained.slots)
    (write : t.write = s.write) (queue : s.writeQueue <+: t.writeQueue) : t.writeAgrees :=
  agrees.kept slots write fun head rest _ first => by
    obtain ⟨more, joined⟩ := queue
    exact ⟨head, rest ++ more, by rw [← joined, first]; rfl, fun _ code => code⟩

theorem joinWrites_prefix (n : WriteEntry) (q : List WriteEntry) (f : MemoryFlags) : q <+: (joinWrites n q f).1 := by
  obtain ⟨-, joined⟩ | ⟨-, lost⟩ := joinWrites_cases n q f
  · rw [joined]; exact List.prefix_append q [n]
  · rw [lost]

theorem HandedTo.foldl_prefix (hs : List Handed) (q : HandedTo) : q.writes <+: (hs.foldl HandedTo.take q).writes :=
  List.foldlRecOn hs HandedTo.take (motive := fun p => q.writes <+: p.writes) (List.prefix_refl _)
    fun p before h _ => before.trans (joinWrites_prefix h.write p.writes p.flags)

theorem State.watchEvent_prefix (s : State) (reach : WatchEntry → Option Reach) :
    s.writeQueue <+: (s.watchEvent reach).writeQueue := by
  obtain ⟨-, -, -, -, ⟨handed, -, folded⟩, -, -⟩ := s.watchEvent_takesEvent reach
  have queue := HandedTo.foldl_prefix handed ⟨s.writeQueue, s.retained.flags, s.reports, s.reportsDropped⟩
  rwa [folded] at queue

theorem State.withAgeEntry_prefix (s : State) : s.writeQueue <+: s.withAgeEntry.1 := by
  unfold State.withAgeEntry
  split
  · exact List.prefix_refl _
  · exact joinWrites_prefix _ _ _

/-- At the limit of AFTER_RUN the code being written stays at the head of the queue (R121). -/
theorem queueAtLimit_head (head : WriteEntry) (rest : List WriteEntry) :
    ∃ head' rest', queueAtLimit true (head :: rest) = head' :: rest'
      ∧ ∀ c, head.headCode = some c → head'.headCode = some c := by
  cases head with
  | confirm e => exact ⟨_, _, rfl, fun _ code => code⟩
  | heal code time => exact ⟨_, _, rfl, fun _ code => code⟩
  | age codes =>
    cases codes with
    | nil => exact ⟨_, _, rfl, fun _ code => code⟩
    | cons c cs => exact ⟨_, _, rfl, fun _ code => code⟩

/-- A slot write has begun: the slot holds the head's code, in a slot of that code or where no slot had it. -/
theorem State.slotsHold.begun (sound : s.slotsHold) (quiet : writingCount s.retained.slots = 0) {head : WriteEntry}
    {rest : List WriteEntry} (queue : s.writeQueue = head :: rest) {i c : Nat} (code : head.headCode = some c)
    {base : Option Record} (inside : i < s.retained.slots.length)
    (alone : ∀ k, k ≠ i → s.retained.slots[k]?.bind Slot.codeOf ≠ some c)
    (continues : ∀ r, base = some r → r.sound ∧ r.code = c) : (s.beginSlotWrite i c base).slotsHold := by
  obtain ⟨slots, -, -, -⟩ := sound
  obtain ⟨d, -, write⟩ := s.beginSlotWrite_write i c base
  refine ⟨slots.set trivial fun k same => Option.some.inj same ▸ alone, ?_, fun _ idle => ?_, ?_⟩
  · exact writingCount_set_le.trans (by rw [quiet])
  · rw [write] at idle; cases idle
  · exact (State.writeAgrees_iff write).2 ⟨head, rest, c, queue, code, List.getElem?_set_self inside, continues⟩

/-- A slot that holds a record continues it: its code stands in no other slot (R108, R112, R113). -/
theorem slotsSound.continues {slots : List Slot} (sound : slotsSound slots) {i : Nat} {r : Record}
    (held : slots[i]? = some (.active r) ∨ slots[i]? = some (.stored r)) :
    i < slots.length ∧ (∀ k, k ≠ i → slots[k]?.bind Slot.codeOf ≠ some r.code) ∧ r.sound := by
  obtain ⟨-, distinct, records⟩ := sound
  obtain active | stored := held
  · refine ⟨(List.getElem?_eq_some_iff.1 active).1, fun k other atK => other (distinct k i r.code atK ?_), ?_⟩
    · rw [active]; rfl
    · exact (records _ (List.mem_of_getElem? active)).1
  · refine ⟨(List.getElem?_eq_some_iff.1 stored).1, fun k other atK => other (distinct k i r.code atK ?_), ?_⟩
    · rw [stored]; rfl
    · exact records _ (List.mem_of_getElem? stored)

/-- WRITE_BEGIN keeps the memory sound (R106, R108, R112, R113). -/
theorem State.slotsHold.beginHead (sound : s.slotsHold) (begins : s.canBeginWrite = true) {head : WriteEntry}
    {rest : List WriteEntry} (queue : s.writeQueue = head :: rest) : (s.beginHead head rest).slotsHold := by
  have ⟨slots, one, quietIf, _⟩ := sound
  have awake := State.not_off_of_awake (State.awake_of_canBeginWrite begins)
  have idle : s.write = none := by
    simp only [State.canBeginWrite, Bool.and_eq_true, Option.isNone_iff_eq_none] at begins
    exact begins.1.1.2
  have quiet := quietIf (fun starting => absurd (.inl starting) awake) idle
  have leaves : ∀ q, (s.withQueue q).slotsHold := fun q =>
    ⟨slots, one, fun _ _ => quiet, State.writeAgrees_of_idle idle⟩
  have continued : ∀ i r, (s.retained.slots[i]? = some (.active r) ∨ s.retained.slots[i]? = some (.stored r)) →
      head.headCode = some r.code → (s.beginSlotWrite i r.code (some r)).slotsHold := by
    intro i r held code
    obtain ⟨inside, alone, record⟩ := slots.continues held
    exact sound.begun quiet queue code inside alone fun q same => Option.some.inj same ▸ ⟨record, rfl⟩
  unfold State.beginHead
  split
  · next e =>
    split
    · next i base found =>
      obtain ⟨r, rfl, code, held⟩ | ⟨rfl, free, inside⟩ := confirmSlot_cases found
      · rw [← code]
        exact continued i r held (congrArg some code.symm)
      · exact sound.begun quiet queue rfl inside (fun k _ => not_codeOf_of_not_holds quiet free k) nofun
    · exact ⟨slots, one, fun _ _ => quiet, State.writeAgrees_of_idle idle⟩
  · split
    · next i r found =>
      obtain ⟨held, rfl⟩ := healSlot_eq_some found
      exact continued i r (.inl held) rfl
    · exact leaves _
  · exact leaves _
  · split
    · next i r found =>
      obtain ⟨-, held, rfl⟩ := ageSlot_eq_some found
      exact continued i r (.inr held) rfl
    · exact leaves _

/-- A completed write leaves its slot with a sound record of the code it was WRITING, or EMPTY (R106). -/
theorem State.slotsHold.finished (sound : s.slotsHold) {w : SlotWrite} (write : s.write = some w) {head : WriteEntry}
    {rest : List WriteEntry} (queue : s.writeQueue = head :: rest) {x : Slot} (q : List WriteEntry)
    (slot : ∀ c, head.headCode = some c → (∀ r, w.base = some r → r.sound ∧ r.code = c) →
      x.sound ∧ x.isWriting = false ∧ ∀ d, x.codeOf = some d → d = c) : (s.finishWrite w.slot x q).slotsHold := by
  obtain ⟨slots, one, -, agrees⟩ := sound
  obtain ⟨head', rest', c, first, code, writing, base⟩ := (State.writeAgrees_iff write).1 agrees
  obtain ⟨rfl, -⟩ := List.cons.inj (queue.symm.trans first)
  obtain ⟨record, filled, same⟩ := slot c code base
  have quiet := writingCount_set_of_writing one writing filled
  exact ⟨slots.set_same record (by rw [writing]; rfl) same, quiet.le.trans (Nat.zero_le 1), fun _ _ => quiet,
    State.writeAgrees_of_idle rfl⟩

/-- An AGE write leaves the memory sound, whether it erases the record or not (R113, R114). -/
theorem State.slotsHold.aged (sound : s.slotsHold) {w : SlotWrite} {r : Record} (write : s.write = some w)
    (base : w.base = some r) {codes : List Nat} {rest : List WriteEntry} (queue : s.writeQueue = .age codes :: rest)
    (q : List WriteEntry) : (s.completeAgeWrite w.slot r q).slotsHold := by
  obtain h | h := s.completeAgeWrite_cases w.slot r q <;> rw [h]
  · exact sound.finished write queue q fun c _ _ => ⟨trivial, rfl, nofun⟩
  · refine sound.finished write queue q fun c _ continues => ⟨(continues r base).1, rfl, fun d same => ?_⟩
    exact (Option.some.inj same).symm.trans (continues r base).2

/-- Start-up leaves a memory of a sound kind: retained and freed of WRITING slots, or empty (R119, R120, R166). -/
theorem State.startRetained_slots (s : State) (sound : s.retained.mark = true → slotsSound s.retained.slots) :
    slotsSound s.startRetained.slots ∧ writingCount s.startRetained.slots = 0 := by
  have freed : ∀ slots : List Slot, writingCount (slots.map Slot.freed) = 0 := by
    intro slots
    rw [← any_isWriting_iff]
    simp [Slot.freed_cases]
  have start : s.startRetained.slots
      = (if s.retained.mark then s.retained.slots else List.replicate 32 Slot.empty).map Slot.freed := by
    unfold State.startRetained
    cases s.retained.mark <;> dsimp only <;> split <;> rfl
  rw [start]
  refine ⟨slotsSound.map ?_ fun x => x.freed_cases.1, freed _⟩
  split
  · next mark => exact sound mark
  · exact slotsSound_replicate

theorem State.Move.memorySound {c : Instr} (move : State.Move c s t) (sound : s.memorySound) : t.memorySound := by
  rw [State.memorySound_iff] at sound ⊢
  have idleKept : ∀ {u : State}, u.retained.slots = s.retained.slots → u.write = s.write →
      (s.power = .starting → s.stage = .waitKey) → s.slotsHold → u.writeAgrees → u.slotsHold := by
    intro u slots write awake holds agrees
    obtain ⟨sound, one, quiet, -⟩ := holds
    refine ⟨slots ▸ sound, slots ▸ one, fun _ idle => ?_, agrees⟩
    rw [slots]
    exact quiet awake (write.symm.trans idle)
  cases move with
  | port p r next => cases p <;> exact sound
  | event reach running =>
    intro mark
    have holds := sound mark
    exact idleKept rfl rfl (by simp [running]) holds (holds.2.2.2.appended rfl rfl (s.watchEvent_prefix reach))
  | beginWrite head rest begins queue =>
    intro mark
    refine (sound ?_).beginHead begins queue
    obtain ⟨i, c, b, h⟩ | h | ⟨q, h⟩ := s.beginHead_cases head rest <;> rw [h] at mark <;> exact mark
  | confirmed w e rest write queue =>
    intro mark
    refine (sound mark).finished write queue rest fun c code continues => ?_
    obtain ⟨slot, same⟩ := ConfirmEntry.result_sound (e := e) fun r base => (continues r base).1
    exact ⟨slot, rfl, fun d holds => (Option.some.inj holds).symm.trans (same.trans (Option.some.inj code))⟩
  | healed w r code time rest write base queue =>
    intro mark
    refine (sound mark).finished write queue rest fun c head continues => ⟨(continues r base).1, rfl, fun d holds => ?_⟩
    exact (Option.some.inj holds).symm.trans (continues r base).2
  | aged w r codes rest write base queue =>
    intro mark
    refine (sound ?_).aged write base queue _
    obtain h | h := s.completeAgeWrite_cases w.slot r (dropAgeCode codes rest) <;> rw [h] at mark <;> exact mark
  | limit overflow afterRun =>
    intro mark
    refine idleKept rfl rfl (by simp [afterRun]) (sound mark) ?_
    refine (sound mark).2.2.2.kept rfl rfl fun head rest progress queue => ?_
    change ∃ _ _, queueAtLimit s.write.isSome s.writeQueue = _ ∧ _
    rw [progress, queue]
    exact queueAtLimit_head head rest
  | sleep afterRun idle =>
    intro mark
    exact idleKept rfl rfl (by simp [afterRun]) (sound mark) (State.writeAgrees_of_idle idle)
  | lose => exact nofun
  | reset | wake =>
    intro mark
    obtain ⟨slots, one, -, -⟩ := sound mark
    exact ⟨slots, one, fun waits => absurd (waits rfl) nofun, State.writeAgrees_of_idle rfl⟩
  | setUp startup starting =>
    intro mark
    obtain ⟨slots, quiet⟩ := s.startRetained_slots fun mark => (sound mark).1
    exact ⟨slots, quiet.le.trans (Nat.zero_le 1), fun _ _ => quiet, State.writeAgrees_of_idle rfl⟩
  | lampStep => obtain ⟨k, due, -, h⟩ := s.advanceStep_cases; rw [h]; exact sound
  | boundary running => obtain ⟨k, e, b, h, -⟩ := s.crossBoundary_cases; rw [h]; exact sound
  | ride u r bulb boards opens =>
    intro mark
    have same : r.mark = s.retained.mark ∧ r.slots = s.retained.slots := by
      obtain rfl | ⟨n, rfl⟩ := opens <;> exact ⟨rfl, rfl⟩
    have holds := sound (same.1.symm.trans mark)
    obtain ⟨afterRun, rfl⟩ | ⟨-, waits, rfl⟩ := boards
    · exact idleKept same.2 rfl (by simp [afterRun]) holds (holds.2.2.2.appended same.2 rfl (List.prefix_refl _))
    · exact idleKept same.2 rfl (fun _ => waits) holds (holds.2.2.2.appended same.2 rfl (List.prefix_refl _))
  | rideEnd u boards =>
    intro mark
    obtain ⟨running, rfl⟩ | ⟨-, waits, rfl⟩ := boards
    · have holds := sound mark
      exact idleKept rfl rfl (by simp [running]) holds (holds.2.2.2.appended rfl rfl u.withAgeEntry_prefix)
    · have holds := sound mark
      exact idleKept rfl rfl (fun _ => waits) holds (holds.2.2.2.appended rfl rfl s.joinBuses.withAgeEntry_prefix)
  | rest starting waits =>
    intro mark
    exact idleKept rfl rfl (fun _ => waits) (sound mark) (sound mark).2.2.2
  | clear scope quiet =>
    intro mark
    obtain ⟨slots, -, -, agrees⟩ := sound mark
    have none := any_isWriting_iff.1 quiet
    have idle := State.idle_of_quiet agrees none
    have left : writingCount (s.acceptClear scope).retained.slots = 0 :=
      Nat.le_zero.1 ((writingCount_map (Slot.isWriting_of_cleared _)).trans none.le)
    exact ⟨slots.map (Slot.cleared_cases _), left.le.trans (Nat.zero_le 1), fun _ _ => left,
      State.writeAgrees_of_idle idle⟩
  | _ => exact sound

end Memory

/-- Settles O29: every move keeps the fault memory sound. -/
theorem faultMemoryStaysSound : Obligations.FaultMemoryStaysSound := by
  intro c s t sound run
  exact (State.moves_of_exec run).keeps (fun _ _ move => move.memorySound) sound

end Sys2Proof.Machine

namespace Sys2Proof.Machine

/-! ## The checksum (R24) -/

section Checksum

variable {skip : Nat}

/-- The bit that a shift moves out of the register comes to its lowest bit: 1Dh is odd. -/
theorem crcShift_getLsbD_zero (r : Byte) : (crcShift r).getLsbD 0 = r.msb := by
  unfold crcShift
  cases h : r.msb <;> simp

theorem crcShift_injective : Function.Injective crcShift := by
  intro a b same
  have top : a.msb = b.msb := by rw [← crcShift_getLsbD_zero, ← crcShift_getLsbD_zero, same]
  have shifted : a <<< 1 = b <<< 1 := by
    unfold crcShift at same
    rw [← top] at same
    cases h : a.msb <;> simpa [h] using same
  refine BitVec.eq_of_getLsbD_eq fun i bound => ?_
  obtain last | lower := Nat.lt_succ_iff_lt_or_eq.1 bound |>.symm
  · rw [last]; simpa [BitVec.msb_eq_getLsbD_last] using top
  · have moved := congrArg (BitVec.getLsbD · (i + 1)) shifted
    have inside : i + 1 < 8 := Nat.succ_lt_succ lower
    simpa only [BitVec.getLsbD_shiftLeft, inside, decide_true, Bool.true_and, Nat.add_sub_cancel,
      Nat.not_lt.2 (Nat.le_add_left 1 i), decide_false, Bool.not_false] using moved

/-- A byte's eight shifts, together (R24). -/
theorem crcByte_injective {x y : Byte} {a b : Byte} (same : crcByte x a = crcByte y b) : x ^^^ a = y ^^^ b := by
  have eight := crcShift_injective.comp <| crcShift_injective.comp <| crcShift_injective.comp <|
    crcShift_injective.comp <| crcShift_injective.comp <| crcShift_injective.comp <| crcShift_injective.comp
    crcShift_injective
  exact eight same

/-- Different registers stay different over the same bytes. -/
theorem crcOver_injective (k : Nat) (bytes : List Byte) : Function.Injective (crcOver skip k · bytes) := by
  induction bytes generalizing k with
  | nil => exact fun _ _ same => same
  | cons b bytes ih =>
    intro x y same
    have next := ih (k + 1) same
    split at next
    · exact next
    · exact (BitVec.xor_left_inj b).1 (crcByte_injective next)

/-- One changed byte, not at the checksum's place, changes the register for good. -/
theorem crcOver_ne_of_changed {a b : List Byte} {i : Nat} (k : Nat) (r : Byte) (length : a.length = b.length)
    (inside : i < a.length) (covered : k + i ≠ skip) (others : ∀ j, j ≠ i → a[j]? = b[j]?) (changed : a[i]? ≠ b[i]?) :
    crcOver skip k r a ≠ crcOver skip k r b := by
  induction a generalizing b i k r with
  | nil => cases inside
  | cons x a ih =>
    cases b with
    | nil => cases length
    | cons y b =>
      cases i with
      | zero =>
        have tails : a = b := List.ext_getElem? fun j => others (j + 1) (Nat.succ_ne_zero j)
        intro same
        subst tails
        have registers := crcOver_injective (k + 1) a same
        have here : k ≠ skip := covered
        rw [if_neg here, if_neg here] at registers
        exact changed (congrArg some ((BitVec.xor_right_inj r).1 (crcByte_injective registers)))
      | succ i =>
        obtain rfl : x = y := Option.some.inj (others 0 (Nat.succ_ne_zero i).symm)
        refine ih (k + 1) _ (Nat.succ.inj length) (Nat.lt_of_succ_lt_succ inside) (by omega) (fun j other => ?_) changed
        exact others (j + 1) fun same => other (Nat.succ.inj same)

end Checksum

/-- Settles O13: a changed byte changes the register, and what follows keeps registers apart. -/
theorem checksumSeesEveryChangedByte : Obligations.ChecksumSeesEveryChangedByte := by
  intro e a b i length inside covered others changed
  exact crcOver_ne_of_changed 0 _ length inside (by rwa [Nat.zero_add]) others changed

/-! ## Verdicts (R23, R25, R26) -/

section Verdicts

variable {e : FrameEntry} {r : FrameRecord} {data : List Byte}

theorem FrameEntry.counterOf_lt (e : FrameEntry) (data : List Byte) : e.counterOf data < 16 := by
  have byte : byteAt data e.counterByte < 256 := (data.getD e.counterByte 0).isLt
  unfold FrameEntry.counterOf
  split <;> omega

/-- What the counter test makes of an arrival that has passed the others (R26). -/
def CounterResult.judgement : CounterResult → Judgement
  | .repeated => ⟨.repeated, some .repeated, 0⟩
  | .skipped n => ⟨.fresh, some .skip, n⟩
  | .ok | .resync | .absent => ⟨.fresh, none, 0⟩

/-- An arrival that passes its length and checksum tests is judged by its rolling counter (R26). -/
theorem judge_of_intact (length : data.length = e.length)
    (checksum : e.checksumPresent = true → e.checksum data = data.getD e.checksumByte 0) :
    judge e r data = (counterTest e r data).judgement := by
  have intact : ¬ (e.checksumPresent ∧ e.checksum data ≠ data.getD e.checksumByte 0) :=
    fun ⟨present, other⟩ => other (checksum present)
  unfold judge
  rw [if_neg (not_not.2 length), if_neg intact]
  cases counterTest e r data <;> rfl

variable (present : e.counterPresent = true)
include present

theorem counterTest_resync (fresh : r.counter = none ∨ r.state = .missing) : counterTest e r data = .resync := by
  unfold counterTest
  rw [if_pos present]
  obtain none | missing := fresh
  · rw [none]
  · cases r.counter with
    | none => rfl
    | some last => exact if_pos missing

theorem counterTest_of_last {last : Nat} (counter : r.counter = some last) (seen : r.state ≠ .missing) :
    counterTest e r data = (if e.counterOf data = (last + 1) % 16 then .ok
      else if e.counterOf data = last then .repeated
      else .skipped ((e.counterOf data + 31 - last) % 16)) := by
  unfold counterTest
  rw [if_pos present, counter]
  exact if_neg seen

end Verdicts

/-- Settles O12: the three tests in their order, each by the branch of `judge` that it decides. -/
theorem arrivalsAreJudgedInOrder : Obligations.ArrivalsAreJudgedInOrder := by
  intro e r data
  refine ⟨fun length => if_pos length, fun length present differs => ?_, fun length checksum => ?_⟩
  · unfold judge
    rw [if_neg (not_not.2 length), if_pos ⟨present, differs⟩]
  · have intact := judge_of_intact (r := r) length checksum
    refine ⟨fun absent => ?_, fun present fresh => ?_, fun last present counter low seen => ?_⟩
    · have test : counterTest e r data = .absent := if_neg (by simp [absent])
      rw [intact, test]; rfl
    · rw [intact, counterTest_resync present fresh]; rfl
    · have test := counterTest_of_last (data := data) present counter seen
      refine ⟨fun next => ?_, fun same => ?_, fun notNext notSame => ?_⟩
      · rw [intact, test, if_pos next]; rfl
      · have notNext : e.counterOf data ≠ (last + 1) % 16 := by omega
        rw [intact, test, if_neg notNext, if_pos same]; rfl
      · have bound := e.counterOf_lt data
        refine ⟨_, by rw [intact, test, if_neg notNext, if_neg notSame]; rfl, ?_, ?_, ?_⟩ <;> omega

/-! ## What an arrival does to its record (R28 to R30, R34, R35) -/

section Records

variable (e : FrameEntry) (r : FrameRecord) (degraded : Bool) (now : Nat)

theorem effective_eq (n : Nat) : effective degraded n = if degraded then (n * 9 + 7) / 8 else n := by
  cases degraded <;> rfl

theorem restartedTimer_eq : restartedTimer e degraded now = (match e.timing with
    | .event => none
    | .periodic => some (min 4294967295 (now + if degraded then (e.timeout * 9 + 7) / 8 else e.timeout))) := by
  unfold restartedTimer
  rw [effective_eq]
  cases e.timing <;> rfl

theorem bit_beq (a b : ArrivalState) : bit (a == b) = if a = b then 1 else 0 := by
  cases a <;> cases b <;> rfl

variable {e r}

theorem classify_event (timing : e.timing = .event) : classify e r degraded now = .onTime := by
  unfold classify; rw [timing]

variable (timing : e.timing = .periodic)
include timing

theorem classify_neverSeen (state : r.state = .neverSeen) : classify e r degraded now = .onTime := by
  unfold classify; rw [timing, state]

theorem classify_missing (state : r.state = .missing) : classify e r degraded now = .late := by
  unfold classify; rw [timing, state]

/-- A periodic entry that is arriving is classified by its period (R28, R29, R34). -/
theorem classify_period (seen : r.state ≠ .neverSeen) (present : r.state ≠ .missing) {before : Nat}
    (last : r.last = some before) : classify e r degraded now =
      (if now - before < e.minPeriod then (if degraded then .onTime else .early)
      else if now - before ≤ effective degraded e.maxPeriod then .onTime
      else .late) := by
  unfold classify
  rw [timing, last]
  cases state : r.state with
  | neverSeen => exact absurd state seen
  | missing => exact absurd state present
  | onTime | early | late => rfl

end Records

/-- Settles O14: a fresh arrival's state is its classification; the rest of the record is `afterFresh`. -/
theorem recordsFollowTheirArrivals : Obligations.RecordsFollowTheirArrivals := by
  intro e r degraded now j data
  refine ⟨fun damaged => ?_, fun repeated => ?_, fun fresh => ?_⟩
  · unfold FrameRecord.afterArrival; rw [damaged]; rfl
  · unfold FrameRecord.afterArrival; rw [repeated]; rfl
  · refine ⟨classify e r degraded now, ?_, classify_event degraded now, classify_neverSeen degraded now,
      classify_missing degraded now, fun before timing seen present last => ?_⟩
    · unfold FrameRecord.afterArrival
      rw [fresh]
      dsimp only [FrameRecord.afterFresh]
      rw [restartedTimer_eq, bit_beq, bit_beq]
      rfl
    · have period := classify_period degraded now timing seen present last
      rw [effective_eq] at period
      rw [period]
      refine ⟨fun early => if_pos early, fun notEarly within => ?_, fun notEarly beyond => ?_⟩
      · rw [if_neg (Nat.not_lt.2 notEarly), if_pos within]
      · rw [if_neg (Nat.not_lt.2 notEarly), if_neg (Nat.not_le.2 beyond)]

end Sys2Proof.Machine

namespace Sys2Proof.Machine

/-! ## One watch in one event (R61, R70, R74) -/

section Evaluations

variable {v : WatchView} {w : WatchEntry}

theorem gateOpen_iff (records : List WatchRecord) (w : WatchEntry) :
    gateOpen records w = true ↔ w.gatePresent = false ∨
      ∃ g, records[w.gateWatch]? = some g
        ∧ ((w.gateSense = .whenHolds ∧ g.result = .holds) ∨ (w.gateSense = .whenClear ∧ g.result = .clear)) := by
  unfold gateOpen
  cases w.gatePresent with
  | false => simp
  | true =>
    cases records[w.gateWatch]? with
    | none => simp
    | some g => cases w.gateSense <;> simp

theorem gateOpen_of_ungated (records : List WatchRecord) (ungated : w.gatePresent = false) :
    gateOpen records w = true :=
  (gateOpen_iff records w).2 (.inl ungated)

/-- A gate's state is read from its gate watch's record alone (R70). -/
theorem gateOpen_congr {a b : List WatchRecord} (same : w.gatePresent = true → a[w.gateWatch]? = b[w.gateWatch]?) :
    gateOpen a w = gateOpen b w := by
  unfold gateOpen
  cases present : w.gatePresent with
  | false => rfl
  | true => rw [same present]

/-- A watch that needs the normal supply has not got it (R61). -/
def WatchView.suspends (v : WatchView) (w : WatchEntry) : Prop := w.needsNormal = true ∧ v.band ≠ .normal

theorem evaluateWatch_suspended (test : Option Bool) (suspended : v.suspends w) :
    evaluateWatch v w true test = .untested v .supply := by
  unfold evaluateWatch
  rw [if_neg (by simp), if_pos (by simpa [WatchView.suspends] using suspended)]

theorem evaluateWatch_tested (supplied : ¬ v.suspends w) :
    evaluateWatch v w true none = .untested v .input
    ∧ ∀ b, evaluateWatch v w true (some b) = ⟨⟨if b then .holds else .clear, none, v.now⟩, some b⟩ := by
  have normal : ¬ (w.needsNormal && v.band != .normal) = true := by simpa [WatchView.suspends] using supplied
  unfold evaluateWatch
  rw [if_neg (by simp), if_neg normal]
  refine ⟨rfl, fun b => ?_⟩
  rw [if_neg (by simp), if_neg normal]
  cases b <;> rfl

/-! ### FAIL with HOLDS, PASS with CLEAR (R74) -/

/-- A sample goes with the result that the event has set, and a record without a sample was there before or is
UNTESTED. -/
def Evaluated.agrees (v : WatchView) (old : Option WatchRecord) (x : Evaluated) : Prop :=
  (x.sample = some true → x.record = ⟨.holds, none, v.now⟩)
  ∧ (x.sample = some false → x.record = ⟨.clear, none, v.now⟩)
  ∧ (x.sample = none → old = some x.record
      ∨ (x.record.result = .untested ∧ x.record.reason.isSome = true ∧ x.record.time = v.now))

variable {old : Option WatchRecord}

theorem Evaluated.agrees_untested (r : Reason) : (Evaluated.untested v r).agrees v old :=
  ⟨nofun, nofun, fun _ => .inr ⟨rfl, rfl, rfl⟩⟩

theorem evaluateWatch_agrees (gate : Bool) (test : Option Bool) : (evaluateWatch v w gate test).agrees v old := by
  cases gate with
  | false => exact Evaluated.agrees_untested .gated
  | true =>
    by_cases suspended : v.suspends w
    · rw [evaluateWatch_suspended test suspended]
      exact Evaluated.agrees_untested .supply
    · obtain ⟨input, tested⟩ := evaluateWatch_tested suspended
      match test with
      | none => rw [input]; exact Evaluated.agrees_untested .input
      | some true => rw [tested]; exact ⟨fun _ => rfl, nofun, nofun⟩
      | some false => rw [tested]; exact ⟨nofun, fun _ => rfl, nofun⟩

theorem reachWatch_agrees (gate : Bool) (a : Reach) : (reachWatch v w gate a).agrees v old := by
  cases a with
  | evaluate test => exact evaluateWatch_agrees gate test
  | untested r => exact Evaluated.agrees_untested r

theorem openedWatch_agrees : (openedWatch v w).agrees v old := by
  unfold openedWatch
  split
  · exact evaluateWatch_agrees true _
  · exact Evaluated.agrees_untested .notYet

theorem reachWatch_untested_of_closed (a : Reach) : (reachWatch v w false a).record.result = .untested := by
  cases a <;> rfl

end Evaluations

/-! ## One event over all watches (R71, R72) -/

section Passes

variable (v : WatchView) (table : List WatchEntry) (reach : WatchEntry → Option Reach) {before : List WatchRecord}
  {i : Nat} {w : WatchEntry} {r : WatchRecord}

/-- The records as the first part of an event leaves them (R71). -/
def recordsBetween (before : List WatchRecord) : List WatchRecord :=
  (ungatedPass v table reach before).map (·.record)

theorem watchPass_eq (before : List WatchRecord) : watchPass v table reach before =
    gatedPass v table reach before (recordsBetween v table reach before) (ungatedPass v table reach before) := rfl

/-- The second part of an event leaves a watch without a gate as the first part left it. -/
theorem watchPass_getElem?_ungated (ungated : ∀ w, table[i]? = some w → w.gatePresent = false) :
    (watchPass v table reach before)[i]? = (ungatedPass v table reach before)[i]? := by
  rw [watchPass_eq, gatedPass, mapFrom_getElem?, Nat.zero_add]
  cases entry : table[i]? with
  | none => simp
  | some w => simp [ungated w entry]

variable (held : before[i]? = some r)
include held

theorem ungatedPass_beyond (entry : table[i]? = none) : (ungatedPass v table reach before)[i]? = some (.kept r) := by
  simp [ungatedPass, mapFrom_getElem?, held, entry]

variable (entry : table[i]? = some w)
include entry

theorem ungatedPass_kept (kept : w.gatePresent = true ∨ reach w = none) :
    (ungatedPass v table reach before)[i]? = some (.kept r) := by
  obtain gated | unreached := kept
  · simp [ungatedPass, mapFrom_getElem?, held, entry, gated]
  · simp [ungatedPass, mapFrom_getElem?, held, entry, unreached]

theorem ungatedPass_reached (ungated : w.gatePresent = false) {a : Reach} (reached : reach w = some a) :
    (ungatedPass v table reach before)[i]? = some (reachWatch v w true a) := by
  simp [ungatedPass, mapFrom_getElem?, held, entry, ungated, reached]

theorem watchPass_of_ungated (ungated : w.gatePresent = false) :
    (∀ a, reach w = some a → (watchPass v table reach before)[i]? = some (reachWatch v w true a))
    ∧ (reach w = none → (watchPass v table reach before)[i]? = some (.kept r)) := by
  have all : ∀ x, table[i]? = some x → x.gatePresent = false := by
    intro x same
    rwa [← Option.some.inj (entry.symm.trans same)]
  rw [watchPass_getElem?_ungated v table reach all]
  exact ⟨fun a => ungatedPass_reached v table reach held entry ungated,
    fun unreached => ungatedPass_kept v table reach held entry (.inr unreached)⟩

/-- A gated watch follows its gate as the first part of the event has left it (R71, R72). -/
theorem watchPass_of_gated (gated : w.gatePresent = true) {open' : Bool}
    (between : gateOpen (recordsBetween v table reach before) w = open') :
    (∀ a, reach w = some a → (watchPass v table reach before)[i]? = some (reachWatch v w open' a))
    ∧ (reach w = none →
      (gateOpen before w = true → open' = false → (watchPass v table reach before)[i]? = some (.untested v .gated))
      ∧ (gateOpen before w = false → open' = true → (watchPass v table reach before)[i]? = some (openedWatch v w))
      ∧ (gateOpen before w = open' → (watchPass v table reach before)[i]? = some (.kept r))) := by
  rw [watchPass_eq, gatedPass, mapFrom_getElem?, Nat.zero_add, ungatedPass_kept v table reach held entry (.inl gated),
    entry]
  simp only [gated, if_true, Option.map_some, between]
  refine ⟨fun a reached => by rw [reached], fun unreached => ?_⟩
  rw [unreached]
  refine ⟨fun opened closes => by rw [opened, closes], fun closed opens => by rw [closed, opens], fun same => ?_⟩
  rw [same]
  cases open' <;> rfl

end Passes

section Events

variable {v : WatchView} {table : List WatchEntry} {reach : WatchEntry → Option Reach} {before : List WatchRecord}

/-- Whatever an event does with a watch, its record and sample agree (R74). -/
theorem watchPass_agrees {i : Nat} {x : Evaluated} (entry : (watchPass v table reach before)[i]? = some x) :
    x.agrees v before[i]? := by
  have length : (watchPass v table reach before).length = before.length := by
    simp [watchPass, gatedPass, ungatedPass]
  have inside : i < before.length := length ▸ (List.getElem?_eq_some_iff.1 entry).1
  obtain ⟨r, held⟩ : ∃ r, before[i]? = some r := ⟨_, List.getElem?_eq_getElem inside⟩
  have kept : (Evaluated.kept r).agrees v before[i]? := ⟨nofun, nofun, fun _ => .inl held⟩
  cases watch : table[i]? with
  | none =>
    rw [watchPass_getElem?_ungated v table reach (by simp [watch]),
      ungatedPass_beyond v table reach held watch] at entry
    exact Option.some.inj entry ▸ kept
  | some w =>
    cases gated : w.gatePresent with
    | false =>
      obtain ⟨reached, unreached⟩ := watchPass_of_ungated v table reach held watch gated
      cases reaches : reach w with
      | none => rw [unreached reaches] at entry; exact Option.some.inj entry ▸ kept
      | some a => rw [reached a reaches] at entry; exact Option.some.inj entry ▸ reachWatch_agrees true a
    | true =>
      obtain ⟨reached, unreached⟩ := watchPass_of_gated v table reach held watch gated rfl
      cases reaches : reach w with
      | some a => rw [reached a reaches] at entry; exact Option.some.inj entry ▸ reachWatch_agrees _ a
      | none =>
        obtain ⟨closes, opens, stays⟩ := unreached reaches
        cases was : gateOpen before w <;> cases is : gateOpen (recordsBetween v table reach before) w
        · rw [stays (was.trans is.symm)] at entry; exact Option.some.inj entry ▸ kept
        · rw [opens was is] at entry; exact Option.some.inj entry ▸ openedWatch_agrees
        · rw [closes was is] at entry; exact Option.some.inj entry ▸ Evaluated.agrees_untested .gated
        · rw [stays (was.trans is.symm)] at entry; exact Option.some.inj entry ▸ kept

/-- Where gates have one level, a gate stands after the event as its first part left it (R59, R71). -/
theorem gateOpen_after {w : WatchEntry} (oneLevel : w.gatePresent = true → ∀ g, table[w.gateWatch]? = some g →
    g.gatePresent = false) :
    gateOpen ((watchPass v table reach before).map (·.record)) w = gateOpen (recordsBetween v table reach before) w :=
  gateOpen_congr fun present => by
    rw [recordsBetween, List.getElem?_map, List.getElem?_map,
      watchPass_getElem?_ungated v table reach (oneLevel present)]

/-- What an event makes of a watch, by its gate before and after (R70 to R72). -/
theorem watchPass_followsGates {i : Nat} {w : WatchEntry} {r : WatchRecord} (entry : table[i]? = some w)
    (held : before[i]? = some r)
    (oneLevel : w.gatePresent = true → ∀ g, table[w.gateWatch]? = some g → g.gatePresent = false) {open' : Bool}
    (after : gateOpen ((watchPass v table reach before).map (·.record)) w = open') :
    (∀ a, reach w = some a → (watchPass v table reach before)[i]? = some (reachWatch v w open' a))
    ∧ (reach w = none →
      (gateOpen before w = true → open' = false → (watchPass v table reach before)[i]? = some (.untested v .gated))
      ∧ (gateOpen before w = false → open' = true → (watchPass v table reach before)[i]? = some (openedWatch v w))
      ∧ (gateOpen before w = open' → (watchPass v table reach before)[i]? = some (.kept r))) := by
  cases gated : w.gatePresent with
  | true => exact watchPass_of_gated v table reach held entry gated ((gateOpen_after oneLevel).symm.trans after)
  | false =>
    obtain ⟨reached, unreached⟩ := watchPass_of_ungated v table reach held entry gated
    have opened : open' = true := after.symm.trans (gateOpen_of_ungated _ gated)
    have was := gateOpen_of_ungated before gated
    rw [opened]
    exact ⟨reached, fun none => ⟨nofun, fun closed => by simp [was] at closed, fun _ => unreached none⟩⟩

end Events

/-- Settles O19: each watch follows its gate, and so a closed gate leaves it UNTESTED. -/
theorem closedGatesLeaveWatchesUntested : Obligations.ClosedGatesLeaveWatchesUntested := by
  refine ⟨gateOpen_iff, fun v table reach before lengths oneLevel => ?_⟩
  intro after
  refine ⟨fun closedUntested w r i entry held closed => ?_, fun i w r entry held => ?_⟩
  · have inside : i < before.length := lengths ▸ (List.getElem?_eq_some_iff.1 entry).1
    obtain ⟨old, was⟩ : ∃ old, before[i]? = some old := ⟨_, List.getElem?_eq_getElem inside⟩
    obtain ⟨reached, unreached⟩ := watchPass_followsGates (reach := reach) entry was
      (fun present g => oneLevel w g i entry present) closed
    rw [List.getElem?_map, Option.map_eq_some_iff] at held
    obtain ⟨x, here, rfl⟩ := held
    cases reaches : reach w with
    | some a =>
      rw [reached a reaches] at here
      exact Option.some.inj here ▸ reachWatch_untested_of_closed a
    | none =>
      obtain ⟨closes, -, stays⟩ := unreached reaches
      cases gate : gateOpen before w with
      | true =>
        rw [closes gate rfl] at here
        exact Option.some.inj here ▸ rfl
      | false =>
        rw [stays gate] at here
        exact Option.some.inj here ▸ closedUntested w old i entry was gate
  · obtain ⟨reached, unreached⟩ := watchPass_followsGates (reach := reach) entry held
      (fun present g => oneLevel w g i entry present) rfl
    cases reaches : reach w with
    | some a => exact ⟨_, reached a reaches, fun b same => by rw [Option.some.inj same], nofun⟩
    | none =>
      obtain ⟨closes, opens, stays⟩ := unreached reaches
      have was : gateOpen before w = true ∨ gateOpen before w = false := Bool.eq_false_or_eq_true _
      have is : gateOpen after w = true ∨ gateOpen after w = false := Bool.eq_false_or_eq_true _
      obtain was | was := was <;> obtain is | is := is
      · exact ⟨_, stays (was.trans is.symm), nofun, fun _ => ⟨by simp [is], by simp [was], fun _ => rfl⟩⟩
      · exact ⟨_, closes was is, nofun, fun _ => ⟨fun _ _ => rfl, by simp [was], by simp [was, is]⟩⟩
      · refine ⟨_, opens was is, nofun, fun _ => ⟨by simp [was], fun _ _ => ⟨fun driven => ?_, fun notDriven => ?_⟩,
          by simp [was, is]⟩⟩
        · exact if_pos driven
        · exact if_neg (by simp [notDriven])
      · exact ⟨_, stays (was.trans is.symm), nofun, fun _ => ⟨by simp [was], by simp [is], fun _ => rfl⟩⟩

end Sys2Proof.Machine

namespace Sys2Proof.Machine

/-! ## The conditions of the kinds (R62 to R69) -/

section Kinds

variable {v : WatchView} {w : WatchEntry} {cache : List CacheEntry} {k : Nat}

theorem validEntry_eq_none (invalid : ∀ c, cache[k]? = some c → c.status ≠ .valid) : validEntry cache k = none := by
  unfold validEntry
  split
  · next c held => exact if_neg (invalid c held)
  · rfl

theorem validEntry_eq_some {c : CacheEntry} (held : cache[k]? = some c) (valid : c.status = .valid) :
    validEntry cache k = some c := by
  unfold validEntry
  rw [held]
  exact if_pos valid

theorem compare_iff (w : WatchEntry) (n : Int) : w.compare n = true ↔ (match w.comparison with
    | .above => w.thresholdA < n
    | .atOrAbove => w.thresholdA ≤ n
    | .below => n < w.thresholdA
    | .atOrBelow => n ≤ w.thresholdA
    | .equal => n = w.thresholdA
    | .notEqual => n ≠ w.thresholdA
    | .inside => w.thresholdA ≤ n ∧ n ≤ w.thresholdB
    | .outside => n < w.thresholdA ∨ w.thresholdB < n) := by
  unfold WatchEntry.compare
  cases w.comparison <;> exact decide_eq_true_iff

/-- The skew gap is the distance of the two update times (R63). -/
theorem skewGap_eq_abs (m n : Nat) : (skewGap m n : Int) = |(m : Int) - n| := by
  unfold skewGap
  obtain le | le := Nat.le_total m n
  · rw [abs_of_nonpos (by omega)]; omega
  · rw [abs_of_nonneg (by omega)]; omega

theorem pairTest_of_valid {a b : CacheEntry} {m n : Nat} (heldA : cache[w.signalA]? = some a)
    (heldB : cache[w.signalB]? = some b) (validA : a.status = .valid) (validB : b.status = .valid)
    (updateA : a.update = some m) (updateB : b.update = some n) :
    pairTest cache w =
      if skewGap m n ≤ w.skew then some (decide ((w.limit : Int) < |a.value - b.value|)) else none := by
  unfold pairTest
  rw [validEntry_eq_some heldA validA, validEntry_eq_some heldB validB]
  dsimp only
  rw [updateA, updateB]
  rfl

theorem stateDriven_iff (w : WatchEntry) : w.stateDriven = true ↔
    w.kind = .level ∨ w.kind = .pair ∨ w.kind = .port ∨ w.kind = .supply := by
  unfold WatchEntry.stateDriven
  cases w.kind <;> simp

theorem stateTest_level (kind : w.kind = .level) :
    ((∀ c, v.cache[w.signalA]? = some c → c.status ≠ .valid) → v.stateTest w = none)
    ∧ ∀ c, v.cache[w.signalA]? = some c → c.status = .valid → v.stateTest w = some (w.compare c.value) := by
  unfold WatchView.stateTest levelTest
  rw [kind]
  exact ⟨fun invalid => by rw [validEntry_eq_none invalid]; rfl,
    fun c held valid => by rw [validEntry_eq_some held valid]; rfl⟩

theorem stateTest_pair (kind : w.kind = .pair) : v.stateTest w = pairTest v.cache w := by
  unfold WatchView.stateTest; rw [kind]

theorem stateTest_port (kind : w.kind = .port) : v.stateTest w = some (w.portHolds (v.portState w.port)) := by
  unfold WatchView.stateTest; rw [kind]

theorem stateTest_supply (kind : w.kind = .supply) : v.stateTest w = some (w.supplyHolds v.band) := by
  unfold WatchView.stateTest; rw [kind]

theorem pairTest_eq_none (invalid : (∀ c, cache[w.signalA]? = some c → c.status ≠ .valid)
    ∨ ∀ c, cache[w.signalB]? = some c → c.status ≠ .valid) : pairTest cache w = none := by
  unfold pairTest
  obtain a | b := invalid
  · rw [validEntry_eq_none a]
  · rw [validEntry_eq_none b]
    cases validEntry cache w.signalA <;> rfl

theorem codeHolds_eq (w : WatchEntry) (data : List Byte) : w.codeHolds data =
    [0, 2, 4].any fun k => byteAt data k * 256 + byteAt data (k + 1) == w.code := by
  simp [WatchEntry.codeHolds, codeSlot, Bool.or_assoc]

end Kinds

/-! ## Which watches an event reaches (R64 to R69) -/

section Reached

variable {v : WatchView} {w : WatchEntry}

theorem ite_of_iff {α : Type} {b : Bool} {p : Prop} [Decidable p] (same : b = true ↔ p) (x y : α) :
    (if b then x else y) = if p then x else y := if_congr same rfl rfl

theorem reachArrival_level (kind : w.kind = .level) (written : Nat → Bool) (a : ArrivalNotice) :
    reachArrival v written a w =
      if a.fresh = true ∧ written w.signalA = true then some (.evaluate (v.stateTest w)) else none := by
  unfold reachArrival; rw [kind]; exact ite_of_iff (by simp) _ _

theorem reachArrival_pair (kind : w.kind = .pair) (written : Nat → Bool) (a : ArrivalNotice) :
    reachArrival v written a w =
      if a.fresh = true ∧ (written w.signalA = true ∨ written w.signalB = true)
        then some (.evaluate (v.stateTest w)) else none := by
  unfold reachArrival; rw [kind]; exact ite_of_iff (by simp) _ _

theorem reachArrival_timing (kind : w.kind = .timing) (written : Nat → Bool) (a : ArrivalNotice) :
    reachArrival v written a w =
      if a.fresh = true ∧ w.frameEntry = a.entry then some (.evaluate (some (w.timingHolds a.cls))) else none := by
  unfold reachArrival; rw [kind]; exact ite_of_iff (by simp) _ _

theorem reachArrival_integrity (kind : w.kind = .integrity) (written : Nat → Bool) (a : ArrivalNotice) :
    reachArrival v written a w =
      if w.frameEntry = a.entry then (w.integrityTest a.fresh a.defect).map fun b => .evaluate (some b) else none := by
  unfold reachArrival; rw [kind]; exact ite_of_iff (by simp) _ _

theorem reachArrival_code (kind : w.kind = .code) (written : Nat → Bool) (a : ArrivalNotice) :
    reachArrival v written a w =
      if a.fresh = true ∧ w.frameEntry = a.entry then some (.evaluate (some (w.codeHolds a.data))) else none := by
  unfold reachArrival; rw [kind]; exact ite_of_iff (by simp) _ _

theorem reachArrival_other (kind : w.kind = .port ∨ w.kind = .supply) (written : Nat → Bool) (a : ArrivalNotice) :
    reachArrival v written a w = none := by
  unfold reachArrival
  obtain h | h := kind <;> rw [h]

theorem integrityTest_masked (w : WatchEntry) (fresh : Bool) (d : Defect) (masked : w.defectMask.has d = true) :
    w.integrityTest fresh (some d) = some true := if_pos masked

theorem integrityTest_unmasked (w : WatchEntry) (fresh : Bool) (d : Defect) (unmasked : w.defectMask.has d = false) :
    w.integrityTest fresh (some d) = if fresh = true then some false else none := if_neg (by simp [unmasked])

theorem reachExpiry_level (kind : w.kind = .level) (staled : Nat → Bool) (entry : Nat) :
    reachExpiry v staled entry w = if staled w.signalA = true then some (.evaluate (v.stateTest w)) else none := by
  unfold reachExpiry; rw [kind]

theorem reachExpiry_pair (kind : w.kind = .pair) (staled : Nat → Bool) (entry : Nat) :
    reachExpiry v staled entry w = if staled w.signalA = true ∨ staled w.signalB = true
      then some (.evaluate (v.stateTest w)) else none := by
  unfold reachExpiry; rw [kind]; exact ite_of_iff (by simp) _ _

theorem reachExpiry_timing (kind : w.kind = .timing) (staled : Nat → Bool) (entry : Nat) :
    reachExpiry v staled entry w = if w.frameEntry = entry then some (.evaluate (some (w.timingHolds .missing)))
      else none := by
  unfold reachExpiry; rw [kind]; exact ite_of_iff (by simp) _ _

theorem reachExpiry_other (kind : w.kind = .integrity ∨ w.kind = .code ∨ w.kind = .port ∨ w.kind = .supply)
    (staled : Nat → Bool) (entry : Nat) : reachExpiry v staled entry w = none := by
  unfold reachExpiry
  obtain h | h | h | h := kind <;> rw [h]

end Reached

/-- Settles O20: samples by `watchPass_agrees`, then each kind's condition and reach by its own law. -/
theorem samplesAgreeWithResults : Obligations.SamplesAgreeWithResults := by
  refine ⟨fun v table reach before i x entry => watchPass_agrees entry,
    fun v w => ⟨?_, stateDriven_iff w, fun kind => ?_,
    fun kind => ⟨fun a => ?_, fun b => ?_, fun a b m n heldA heldB validA validB updateA updateB => ?_⟩,
    fun kind => ?_, fun kind => ?_, fun written a => ?_, fun staled entry => ?_, fun p => ?_, ?_, ?_⟩⟩
  · intro untested suspended
    refine ⟨fun _ _ => rfl, fun _ => rfl, fun test => evaluateWatch_suspended test, fun supplied => ?_⟩
    obtain ⟨input, tested⟩ := evaluateWatch_tested supplied
    exact ⟨input, tested true, tested false⟩
  · obtain ⟨invalid, valid⟩ := stateTest_level (v := v) kind
    refine ⟨invalid, fun c held status => ⟨_, valid c held status, (compare_iff w c.value).trans ?_⟩⟩
    cases w.comparison <;> rfl
  · rw [stateTest_pair kind, pairTest_eq_none (.inl a)]
  · rw [stateTest_pair kind, pairTest_eq_none (.inr b)]
  · rw [stateTest_pair kind, pairTest_of_valid heldA heldB validA validB updateA updateB, ← skewGap_eq_abs]
    exact ⟨fun far => if_neg (by omega), fun near => if_pos (by omega)⟩
  · refine (stateTest_port kind).trans ?_
    unfold WatchEntry.portHolds
    cases w.portCondition
    · rfl
    · exact congrArg some (Bool.or_comm _ _)
  · refine (stateTest_supply kind).trans ?_
    unfold WatchEntry.supplyHolds
    cases w.supplyCondition
    · rfl
    · rfl
    · cases v.band <;> rfl
  · refine ⟨fun kind => reachArrival_level kind written a, fun kind => reachArrival_pair kind written a,
      fun kind => ?_, fun kind other => ?_, fun kind same => ?_, fun kind => ?_,
      fun kind => reachArrival_other kind written a⟩
    · refine (reachArrival_timing kind written a).trans ?_
      unfold WatchEntry.timingHolds
      cases w.timingCondition <;> rfl
    · rw [reachArrival_integrity kind, if_neg other]
    · rw [reachArrival_integrity kind, if_pos same]
      refine ⟨fun sound => by rw [sound]; rfl, fun d defect => ⟨fun masked => ?_, fun unmasked => ?_⟩⟩
      · rw [defect, integrityTest_masked w _ d masked]; rfl
      · rw [defect, integrityTest_unmasked w _ d unmasked]
        cases a.fresh <;> rfl
    · rw [reachArrival_code kind, codeHolds_eq]
  · refine ⟨fun kind => reachExpiry_level kind staled entry, fun kind => reachExpiry_pair kind staled entry,
      fun kind => ?_, fun kind => reachExpiry_other kind staled entry⟩
    refine (reachExpiry_timing kind staled entry).trans ?_
    unfold WatchEntry.timingHolds
    cases w.timingCondition <;> rfl
  · exact ite_of_iff (by simp) _ _
  · exact ite_of_iff (by simp) _ _
  · exact ite_of_iff (by simp) _ _

end Sys2Proof.Machine

namespace Sys2Proof.Machine

/-! ## PASS samples (R82, R84, R85, R88) -/

section PassSamples

variable {e : FaultEntry} {f : FaultState}

@[simp] theorem RideFlags.afterSample_heal (r : RideFlags) : r.afterSample .heal = { r with tested := true } := by
  simp [RideFlags.afterSample]

/-- A LATCHED fault in ACTIVE waits for a verified ride (R85). -/
theorem sampleFault_of_waiting (latched : e.cls = .latched) (active : f.state = .active) :
    sampleFault e false false f = (f, .nothing) := by
  simp [sampleFault, latched, active]

/-- Every other PASS is taken (R84, R85). -/
theorem sampleFault_of_taken {verified : Bool} (taken : e.cls = .selfHealing ∨ f.state ≠ .active ∨ verified = true) :
    sampleFault e verified false f = passSample e f := by
  have free : ¬ (e.cls == .latched && f.state == .active && !verified) = true := by
    obtain healing | other | ride := taken <;> simp [*]
  unfold sampleFault
  rw [if_neg (by simp), if_neg free]

theorem passSample_counter : (passSample e f).1.counter = e.passCounter f.counter := by
  obtain unconfirmed | confirmed := f.state.cases_of_confirm
  · rw [passSample_of_unconfirmed e f unconfirmed]; split <;> rfl
  · rw [passSample_of_confirmed e f confirmed]; split <;> rfl

/-- A PASS heals or hands on nothing: it never confirms (R84, R88). -/
theorem passSample_outcome_cases : (passSample e f).2 = .heal ∨ (passSample e f).2 = .nothing := by
  obtain unconfirmed | confirmed := f.state.cases_of_confirm
  · rw [passSample_of_unconfirmed e f unconfirmed]; split <;> exact .inr rfl
  · rw [passSample_of_confirmed e f confirmed]
    split
    · exact .inl rfl
    · exact .inr rfl

theorem sampleFault_pass_outcome (verified : Bool) :
    (sampleFault e verified false f).2 = .heal ∨ (sampleFault e verified false f).2 = .nothing := by
  obtain ⟨-, ignored⟩ | taken := sampleFault_pass_cases e f verified
  · rw [ignored]; exact .inr rfl
  · rw [taken]; exact passSample_outcome_cases

theorem passSample_to_zero (unconfirmed : f.state.unconfirmed) (zero : e.passCounter f.counter = 0) :
    passSample e f = (⟨.passed, 0⟩, .nothing) := by
  rw [passSample_of_unconfirmed e f unconfirmed, if_pos zero, zero]

theorem passSample_heals (confirmed : f.state = .active ∨ f.state = .healing) (zero : e.passCounter f.counter = 0) :
    passSample e f = (⟨.passed, 0⟩, .heal) := by
  rw [passSample_of_confirmed e f confirmed, if_pos zero, zero]

theorem FaultEntry.passCounter_of_resets (resets : e.passResets = true) (c : Nat) : e.passCounter c = 0 := if_pos resets

/-- A counter at 0 stays there (R84). -/
theorem FaultState.agreesWith.passCounter_of_idle (agrees : f.agreesWith e)
    (idle : f.state = .notTested ∨ f.state = .passed) : e.passCounter f.counter = 0 := by
  have zero : f.counter = 0 := by
    obtain ⟨state, c⟩ := f
    obtain rfl | rfl : state = .notTested ∨ state = .passed := idle
    · exact FaultState.agreesWith_notTested.1 agrees
    · exact FaultState.agreesWith_passed.1 agrees
  unfold FaultEntry.passCounter
  rw [zero]
  split <;> omega

end PassSamples

/-- Settles O22: each clause is the equation of `passSample` for the old state, and what its outcome hands on. -/
theorem passSamplesLowerTheCounter : Obligations.PassSamplesLowerTheCounter := by
  refine ⟨fun e verified f range agrees taken => ?_, fun x d i e f entry state => ?_⟩
  · intro c r
    have sample : r = passSample e f := sampleFault_of_taken taken
    have counter : c = e.passCounter f.counter := rfl
    rw [sample, counter]
    refine ⟨passSample_counter, e.passCounter_lt range agrees.counter_le,
      fun unconfirmed => ⟨fun zero => ?_, fun above => ?_⟩, fun confirmed => ⟨fun zero => ?_, fun above => ?_⟩,
      fun idle => ?_, fun resets pending => ?_, fun resets confirmed => ?_, fun large active => ?_⟩
    · rw [passSample_to_zero unconfirmed zero]; exact ⟨rfl, rfl⟩
    · rw [passSample_of_unconfirmed e f unconfirmed, if_neg (Nat.ne_of_gt above)]; exact ⟨rfl, rfl⟩
    · rw [passSample_heals confirmed zero]; exact ⟨rfl, rfl⟩
    · rw [passSample_of_confirmed e f confirmed, if_neg (Nat.ne_of_gt above)]; exact ⟨rfl, rfl⟩
    · rw [passSample_to_zero (idle.imp_right .inl) (agrees.passCounter_of_idle idle)]; exact ⟨rfl, rfl⟩
    · rw [passSample_to_zero (.inr (.inr pending)) (e.passCounter_of_resets resets _)]
    · rw [passSample_heals confirmed (e.passCounter_of_resets resets _)]; exact ⟨rfl, rfl⟩
    · have zero : e.passCounter f.counter = 0 := by
        rw [agrees.counter_of_active active]
        unfold FaultEntry.passCounter
        split <;> omega
      rw [passSample_heals (.inl active) zero]; exact ⟨rfl, rfl⟩
  · intro r t
    have after := takeSample_of_reached x d i false entry state
    rw [show t = _ from after]
    have outcome := sampleFault_pass_outcome (e := e) (f := f) x.verified
    refine ⟨rfl, fun k other => by simp [Ne.symm other], fun g flags => ?_, fun heals => ?_, fun quiet => ?_⟩
    · obtain heals | nothing := outcome
      · rw [heals]; simp [flags]
      · rw [nothing]; simp [flags]
    · dsimp only
      rw [show (sampleFault e x.verified false f).2 = .heal from heals]
      rfl
    · dsimp only
      rw [outcome.resolve_left quiet]
      exact List.append_nil _

/-- Settles O23: such a sample is ignored but for the ride flag. -/
theorem latchedFaultsWaitForAVerifiedRide : Obligations.LatchedFaultsWaitForAVerifiedRide := by
  intro x d i e f entry state latched active unverified
  have ignored : sampleFault e x.verified false f = (f, .nothing) := by
    rw [unverified]; exact sampleFault_of_waiting latched active
  rw [takeSample_of_reached x d i false entry state, ignored]
  refine ⟨?_, List.append_nil _, fun r flags => by simp [flags], fun k other => by simp [Ne.symm other]⟩
  obtain ⟨inside, rfl⟩ := List.getElem?_eq_some_iff.1 state
  exact List.set_getElem_self inside

/-! ## Derivation (R93) -/

section Derivation

variable {slots : List Slot} {code : Nat} {a b : List WriteEntry}

/-- Entries that say nothing of a code leave its memory view to the entries before them, or to the slots. -/
theorem memoryViewActive_of_silent (silent : ∀ y ∈ b, y.viewOf code = none) :
    memoryViewActive slots b code = slots.any (Slot.activeWith code) := by
  unfold memoryViewActive
  rw [List.filterMap_eq_nil_iff.2 silent]
  rfl

/-- The most recently queued entry that says something of a code decides its memory view (R93). -/
theorem memoryViewActive_of_last (silent : ∀ y ∈ b, y.viewOf code = none) {x : WriteEntry} {view : Bool}
    (speaks : x.viewOf code = some view) : memoryViewActive slots (a ++ x :: b) code = view := by
  unfold memoryViewActive
  rw [List.filterMap_append, List.filterMap_cons_some speaks, List.filterMap_eq_nil_iff.2 silent, List.getLast?_concat]

theorem viewOf_eq_none {y : WriteEntry}
    (other : (∀ z, y = .confirm z → z.code ≠ code) ∧ ∀ time, y ≠ .heal code time) : y.viewOf code = none := by
  obtain ⟨notConfirm, notHeal⟩ := other
  cases y with
  | confirm z => exact if_neg (notConfirm z rfl)
  | heal c time => exact if_neg fun (same : c = code) => notHeal time (same ▸ rfl)
  | age cs => rfl

theorem FaultEntry.derive_of_view {e : FaultEntry} {view : Bool} (seen : memoryViewActive slots b e.code = view) :
    e.derive slots b = if view then ⟨.active, e.threshold⟩ else ⟨.notTested, 0⟩ := by
  unfold FaultEntry.derive; rw [seen]

end Derivation

/-- Settles O25: the last entry of the code decides, else the slots. -/
theorem derivationFollowsQueueThenSlots : Obligations.DerivationFollowsQueueThenSlots := by
  intro e slots a b others
  have silent : ∀ y ∈ b, y.viewOf e.code = none := fun y member => viewOf_eq_none (others y member)
  refine ⟨fun x same => ?_, fun time => ?_, fun held => ?_, fun none => ?_⟩
  · exact FaultEntry.derive_of_view (memoryViewActive_of_last (x := .confirm x) silent (if_pos same))
  · exact FaultEntry.derive_of_view (memoryViewActive_of_last (x := .heal e.code time) silent (if_pos rfl))
  · obtain ⟨r, member, same⟩ := held
    have active : slots.any (Slot.activeWith e.code) = true :=
      List.any_eq_true.2 ⟨_, member, (Slot.activeWith_iff _).2 ⟨r, rfl, same⟩⟩
    exact FaultEntry.derive_of_view ((memoryViewActive_of_silent silent).trans active)
  · have quiet : slots.any (Slot.activeWith e.code) = false := by
      refine List.any_eq_false.2 fun x member holds => ?_
      obtain ⟨r, rfl, same⟩ := x.activeWith_iff.1 holds
      exact none r member same
    exact FaultEntry.derive_of_view ((memoryViewActive_of_silent silent).trans quiet)

end Sys2Proof.Machine

namespace Sys2Proof.Machine

/-! ## Open slots of a window (R139) -/

/-- Slot `n` of a window is open when the share of the first `n + 1` slots has risen by one. -/
theorem share_succ (k n : Nat) (rate : k ≤ 16) :
    (n + 1) * k / 16 = n * k / 16 + if slotOpen k n = true then 1 else 0 := by
  unfold slotOpen
  rw [Nat.succ_mul]
  split
  · next opens =>
    have rises := of_decide_eq_true opens
    omega
  · next closed =>
    have stays := of_decide_eq_false (Bool.eq_false_iff.2 closed)
    omega

theorem openSlots_length (k : Nat) (rate : k ≤ 16) (n : Nat) :
    ((List.range n).filter (slotOpen k)).length = n * k / 16 := by
  induction n with
  | zero => simp
  | succ n ih =>
    rw [List.range_succ, List.filter_append, List.length_append, ih, share_succ k n rate, List.filter_singleton]
    cases slotOpen k n <;> rfl

/-- Settles O39: the share of the window grows slot by slot. -/
theorem openSlotsSpreadOverTheWindow : Obligations.OpenSlotsSpreadOverTheWindow := by
  intro k rate
  refine ⟨openSlots_length k rate, ?_, fun positive => ?_⟩
  · rw [openSlots_length k rate, Nat.mul_comm, Nat.mul_div_cancel k (by decide)]
  · exact decide_eq_true (by omega)

/-! ## Bytes -/

section Bytes

theorem byteOf_toNat (n : Nat) : (byteOf n).toNat = n % 256 := BitVec.toNat_ofNat n 8

theorem byteOf_inj {m n : Nat} : byteOf m = byteOf n ↔ m % 256 = n % 256 := by
  rw [← BitVec.toNat_inj, byteOf_toNat, byteOf_toNat]

theorem bit_le (b : Bool) : bit b ≤ 1 := by cases b <;> decide

theorem bit_injective {a b : Bool} (same : bit a = bit b) : a = b := by
  revert same
  cases a <;> cases b <;> simp [bit]

theorem EventKind.code_le (e : EventKind) : e.code ≤ 2 := by cases e <;> decide

theorem EventKind.code_injective {a b : EventKind} (same : a.code = b.code) : a = b := by
  revert same
  cases a <;> cases b <;> simp [EventKind.code]

theorem FaultSystem.code_le (x : FaultSystem) : x.code ≤ 1 := by cases x <;> decide

theorem FaultSystem.code_injective {a b : FaultSystem} (same : a.code = b.code) : a = b := by
  revert same
  cases a <;> cases b <;> simp [FaultSystem.code]

theorem LampMode.code_le (m : LampMode) : m.code ≤ 3 := by cases m <;> decide

theorem LampMode.code_injective {a b : LampMode} (same : a.code = b.code) : a = b := by
  revert same
  cases a <;> cases b <;> simp [LampMode.code]

theorem Band.code_le (b : Band) : b.code ≤ 2 := by cases b <;> decide

theorem Band.code_injective {a b : Band} (same : a.code = b.code) : a = b := by
  revert same
  cases a <;> cases b <;> simp [Band.code]

end Bytes

/-! ## The layouts of R177 -/

section Broadcasts

/-- A report frame gives back what went into it (R177). -/
theorem reportBytes_injective {a b : ReportEntry} {m n : Nat} (codeA : a.code < 65536) (codeB : b.code < 65536)
    (lowA : 1 ≤ a.severity) (highA : a.severity ≤ 4) (lowB : 1 ≤ b.severity) (highB : b.severity ≤ 4)
    (timeA : a.eventTime < 4294967296) (timeB : b.eventTime < 4294967296) (countA : m ≤ 255) (countB : n ≤ 255)
    (same : reportBytes a m = reportBytes b n) :
    a.code = b.code ∧ a.event = b.event ∧ a.superseded = b.superseded ∧ a.system = b.system
      ∧ a.severity = b.severity ∧ m = n ∧ a.eventTime = b.eventTime := by
  simp only [reportBytes, bytes16, bytes32, List.cons_append, List.nil_append, List.cons.injEq, byteOf_inj,
    and_true] at same
  obtain ⟨code1, code0, fields, count, time3, time2, time1, time0⟩ := same
  have eventA := a.event.code_le
  have eventB := b.event.code_le
  have systemA := a.system.code_le
  have systemB := b.system.code_le
  have supersededA := bit_le a.superseded
  have supersededB := bit_le b.superseded
  exact ⟨by omega, EventKind.code_injective (by omega), bit_injective (by omega), FaultSystem.code_injective (by omega),
    by omega, by omega, by omega⟩

/-- The four memory flags from the low bits of their byte (R177). -/
theorem MemoryFlags.eq_of_bits {f g : MemoryFlags} (lost : bit f.memoryLost = bit g.memoryLost)
    (full : bit f.memoryFull = bit g.memoryFull) (record : bit f.recordLost = bit g.recordLost)
    (deferred : bit f.deferredOverflow = bit g.deferredOverflow) : f = g := by
  obtain ⟨lostF, fullF, recordF, deferredF⟩ := f
  obtain ⟨lostG, fullG, recordG, deferredG⟩ := g
  rw [MemoryFlags.mk.injEq]
  exact ⟨bit_injective lost, bit_injective full, bit_injective record, bit_injective deferred⟩

/-- A status frame gives back what went into it (R177). -/
theorem statusBytes_injective {e e' l l' : LampMode} {s s' : Band} {x x' y y' z z' : Nat} {f f' : MemoryFlags}
    {u u' v v' w w' : Bool} {d d' r r' : Nat} (hx : x ≤ 64) (hx' : x' ≤ 64) (hy : y ≤ 64) (hy' : y' ≤ 64)
    (hz : z ≤ 32) (hz' : z' ≤ 32) (hd : d ≤ 255) (hd' : d' ≤ 255) (hr : r ≤ 255) (hr' : r' ≤ 255)
    (same : statusBytes e l s x y z f u v w d r = statusBytes e' l' s' x' y' z' f' u' v' w' d' r') :
    e = e' ∧ l = l' ∧ s = s' ∧ x = x' ∧ y = y' ∧ z = z' ∧ f = f' ∧ u = u' ∧ v = v' ∧ w = w' ∧ d = d' ∧ r = r' := by
  simp only [statusBytes, List.cons.injEq, byteOf_inj, and_true] at same
  obtain ⟨modes, engine, brake, records, flags, dropped, restarts⟩ := same
  have := e.code_le
  have := e'.code_le
  have := l.code_le
  have := l'.code_le
  have := s.code_le
  have := s'.code_le
  have flagBits : ∀ g : MemoryFlags, bit g.memoryLost ≤ 1 ∧ bit g.memoryFull ≤ 1 ∧ bit g.recordLost ≤ 1
      ∧ bit g.deferredOverflow ≤ 1 := fun g => ⟨bit_le _, bit_le _, bit_le _, bit_le _⟩
  have := flagBits f
  have := flagBits f'
  have := bit_le u
  have := bit_le u'
  have := bit_le v
  have := bit_le v'
  have := bit_le w
  have := bit_le w'
  exact ⟨LampMode.code_injective (by omega), LampMode.code_injective (by omega), Band.code_injective (by omega),
    by omega, by omega, by omega,
    MemoryFlags.eq_of_bits (by omega) (by omega) (by omega) (by omega),
    bit_injective (by omega), bit_injective (by omega), bit_injective (by omega), by omega, by omega⟩

end Broadcasts

/-- Settles O41: both layouts give back what went into them. -/
theorem broadcastLayoutsLoseNothing : Obligations.BroadcastLayoutsLoseNothing := by
  refine ⟨fun a b m n codeA codeB lowA highA lowB highB timeA timeB countA countB => ⟨rfl, ?_⟩,
    fun e e' l l' s s' x x' y y' z z' f f' u u' v v' w w' d d' r r' hx hx' hy hy' hz hz' hd hd' hr hr' => ⟨rfl, ?_⟩⟩
  · exact reportBytes_injective codeA codeB lowA highA lowB highB timeA timeB countA countB
  · exact statusBytes_injective hx hx' hy hy' hz hz' hd hd' hr hr'

/-! ## The parts of a multi-frame response (R151, R178) -/

section Parts

/-- A part is eight bytes long and carries its index in the low half of byte 2. -/
def isPart (k : Nat) (p : List Byte) : Prop := p.length = 8 ∧ (p.getD 2 0).toNat % 16 = k

theorem streamPart_isPart (code : Byte) (stream : List Byte) {k : Nat} (whole : 5 * k + 5 ≤ stream.length)
    (index : k < 16) : isPart k (streamPart code stream k) := by
  refine ⟨?_, ?_⟩
  · simp only [streamPart, List.length_append, List.length_take, List.length_drop, List.length_cons, List.length_nil]
    omega
  · change (byteOf k).toNat % 16 = k
    rw [byteOf_toNat]; omega

theorem recordPart_isPart (stored : Bool) (r : Record) : isPart 0 (recordPart stored r) := by
  refine ⟨rfl, ?_⟩
  change (byteOf _).toNat % 16 = 0
  rw [byteOf_toNat]
  cases stored <;> simp only [Bool.false_eq_true, if_true, if_false] <;> omega

theorem stampPart_isPart {k : Nat} (t : Stamp) (index : k < 16) : isPart k (stampPart k t) := by
  refine ⟨rfl, ?_⟩
  change (byteOf _).toNat % 16 = k
  rw [byteOf_toNat]; omega

theorem snapshotPart_isPart {k : Nat} (x : Snapshot) (index : k < 16) : isPart k (snapshotPart k x) := by
  refine ⟨rfl, ?_⟩
  change (byteOf k).toNat % 16 = k
  rw [byteOf_toNat]; omega

theorem FrozenCopy.part_isPart (c : FrozenCopy) {k : Nat} (below : k < c.partCount) (index : k < 16) :
    isPart k (c.part k) := by
  cases c with
  | frameState r =>
    have bound : k < 5 := below
    have length : r.stream.length = 25 := rfl
    exact streamPart_isPart 0x03 _ (by omega) index
  | signal x =>
    have bound : k < 2 := below
    have length : x.stream.length = 10 := rfl
    exact streamPart_isPart 0x04 _ (by omega) index
  | record stored r =>
    match k with
    | 0 => exact recordPart_isPart stored r
    | 1 => exact stampPart_isPart r.first index
    | 2 => exact stampPart_isPart r.last index
    | j + 3 =>
      have inside : j < r.allSnapshots.length := by
        have bound : j + 3 < 3 + r.allSnapshots.length := below
        omega
      have part : (FrozenCopy.record stored r).part (j + 3) = snapshotPart (j + 3) r.allSnapshots[j] := by
        simp [FrozenCopy.part, List.getElem?_eq_getElem inside]
      rw [part]
      exact snapshotPart_isPart _ index

end Parts

/-- Settles O45: the parts by their kinds. -/
theorem responsePartsAreEightBytes : Obligations.ResponsePartsAreEightBytes := by
  intro c
  refine ⟨fun stored r copy first latest => ?_, fun r copy => copy ▸ rfl, fun x copy => copy ▸ rfl,
    fun k => c.part_isPart⟩
  have count : c.partCount = 3 + (r.firstFrame.length + (r.latestFrame.getD []).length) := by
    rw [copy, ← List.length_append]; rfl
  have latestLength : (r.latestFrame.getD []).length ≤ 6 := by
    cases held : r.latestFrame with
    | none => exact Nat.zero_le 6
    | some l => exact latest l held
  omega

/-! ## Request frames (R178) -/

/-- The bytes of a word, high byte first, give the word back. -/
theorem append_bytes16 (v : BitVec 16) : v.extractLsb' 8 8 ++ v.extractLsb' 0 8 = v := by
  rw [BitVec.extractLsb'_append_extractLsb'_eq_extractLsb' (show 8 = 0 + 8 from rfl)]
  exact BitVec.extractLsb'_eq_self

theorem append_bytes32 (v : BitVec 32) :
    v.extractLsb' 24 8 ++ v.extractLsb' 16 8 ++ v.extractLsb' 8 8 ++ v.extractLsb' 0 8 = v := by
  rw [BitVec.extractLsb'_append_extractLsb'_eq_extractLsb' (show 24 = 16 + 8 from rfl),
    BitVec.extractLsb'_append_extractLsb'_eq_extractLsb' (show 16 = 8 + 8 from rfl),
    BitVec.extractLsb'_append_extractLsb'_eq_extractLsb' (show 8 = 0 + 8 from rfl)]
  exact BitVec.extractLsb'_eq_self

/-- Settles O54: each request's bytes by the branch of `decodeRequest` for its code. -/
theorem requestFramesDecodeToTheirRequests : Obligations.RequestFramesDecodeToTheirRequests := by
  intro q extra request
  cases q with
  | writeTable t i f v => exact congrArg (Request.writeTable t i f) (append_bytes32 v)
  | clear scope code => exact congrArg (Request.clear scope) (append_bytes16 code)
  | badRequest code => exact absurd rfl (request code)
  | _ => rfl

end Sys2Proof.Machine

namespace Sys2Proof.Machine

/-! ## Table fields as numbers (R156, R179)

The fields of a record, read one after the other, are a list of numbers; a write sets one of them. -/

section Numbers

def Settings.numbers (e : Settings) : List Int :=
  [e.frameCount, e.signalCount, e.watchCount, e.faultCount, e.controlRate, e.vehicleRate,
   defaultRouteCode e.routeToVehicle, defaultRouteCode e.routeToControl, e.requestId, e.responseId, e.statusId,
   e.reportId, e.statusPeriod, e.reportsPerWindow, e.startGrace, e.bulbCheck, flagNumber e.speedPresent, e.speedSignal,
   e.verifySpeed, e.slowPattern.toNat, e.fastPattern.toNat]

def FrameEntry.numbers (e : FrameEntry) : List Int :=
  [portCode e.port, e.ident, e.length, routeCode e.route, flagNumber e.counterPresent, e.counterByte,
   nibbleCode e.counterNibble, flagNumber e.checksumPresent, e.checksumByte, e.seed, frameTimingCode e.timing,
   e.minPeriod, e.maxPeriod, e.timeout]

def SignalEntry.numbers (e : SignalEntry) : List Int :=
  [e.frameEntry, extractionCode e.extraction, e.bytePos, e.bitOffset, e.width, flagNumber e.signed, e.gain, e.shift,
   e.offset, flagNumber e.naPresent, e.naRaw]

def WatchEntry.numbers (e : WatchEntry) : List Int :=
  [watchKindCode e.kind, flagNumber e.gatePresent, e.gateWatch, gateSenseCode e.gateSense, flagNumber e.needsNormal,
   flagNumber e.linkPresent, e.link, e.signalA, e.signalB, comparisonCode e.comparison, e.thresholdA, e.thresholdB,
   e.limit, e.skew, e.frameEntry, timingConditionCode e.timingCondition, e.defectMask.number, e.code, portCode e.port,
   portConditionCode e.portCondition, supplyConditionCode e.supplyCondition]

def FaultEntry.numbers (e : FaultEntry) : List Int :=
  [e.code, e.system.code, e.cls.code, e.severity, e.threshold, e.upStep, e.downStep, flagNumber e.passResets,
   e.agingLimit, e.lampMode.code, e.snapshotLength, e.snapshots.getD 0 0, e.snapshots.getD 1 0, e.snapshots.getD 2 0,
   e.snapshots.getD 3 0, e.snapshots.getD 4 0, e.snapshots.getD 5 0]

theorem Settings.readField_eq (e : Settings) (f : Nat) : e.readField f = e.numbers[f]? := by
  match f with
  | 0 | 1 | 2 | 3 | 4 | 5 | 6 | 7 | 8 | 9 | 10 | 11 | 12 | 13 | 14 | 15 | 16 | 17 | 18 | 19 | 20 => rfl
  | _ + 21 => rfl

theorem FrameEntry.readField_eq (e : FrameEntry) (f : Nat) : e.readField f = e.numbers[f]? := by
  match f with
  | 0 | 1 | 2 | 3 | 4 | 5 | 6 | 7 | 8 | 9 | 10 | 11 | 12 | 13 => rfl
  | _ + 14 => rfl

theorem SignalEntry.readField_eq (e : SignalEntry) (f : Nat) : e.readField f = e.numbers[f]? := by
  match f with
  | 0 | 1 | 2 | 3 | 4 | 5 | 6 | 7 | 8 | 9 | 10 => rfl
  | _ + 11 => rfl

theorem WatchEntry.readField_eq (e : WatchEntry) (f : Nat) : e.readField f = e.numbers[f]? := by
  match f with
  | 0 | 1 | 2 | 3 | 4 | 5 | 6 | 7 | 8 | 9 | 10 | 11 | 12 | 13 | 14 | 15 | 16 | 17 | 18 | 19 | 20 => rfl
  | _ + 21 => rfl

theorem FaultEntry.readField_eq (e : FaultEntry) (f : Nat) : e.readField f = e.numbers[f]? := by
  match f with
  | 0 | 1 | 2 | 3 | 4 | 5 | 6 | 7 | 8 | 9 | 10 | 11 | 12 | 13 | 14 | 15 | 16 => rfl
  | _ + 17 => rfl

end Numbers

/-! ## Writing one number -/

section Writing

/-- A code names the value that it is read as (R181). -/
def Names {β : Type} (code : β → Nat) (ofCode : Int → Option β) : Prop := ∀ v b, ofCode v = some b → (code b : Int) = v

theorem portOfCode_names : Names portCode portOfCode := by
  intro v b named
  unfold portOfCode at named
  split at named <;> cases named <;> rfl

theorem routeOfCode_names : Names routeCode routeOfCode := by
  intro v b named
  unfold routeOfCode at named
  split at named <;> cases named <;> rfl

theorem nibbleOfCode_names : Names nibbleCode nibbleOfCode := by
  intro v b named
  unfold nibbleOfCode at named
  split at named <;> cases named <;> rfl

theorem frameTimingOfCode_names : Names frameTimingCode frameTimingOfCode := by
  intro v b named
  unfold frameTimingOfCode at named
  split at named <;> cases named <;> rfl

theorem extractionOfCode_names : Names extractionCode extractionOfCode := by
  intro v b named
  unfold extractionOfCode at named
  split at named <;> cases named <;> rfl

theorem watchKindOfCode_names : Names watchKindCode watchKindOfCode := by
  intro v b named
  unfold watchKindOfCode at named
  split at named <;> cases named <;> rfl

theorem gateSenseOfCode_names : Names gateSenseCode gateSenseOfCode := by
  intro v b named
  unfold gateSenseOfCode at named
  split at named <;> cases named <;> rfl

theorem comparisonOfCode_names : Names comparisonCode comparisonOfCode := by
  intro v b named
  unfold comparisonOfCode at named
  split at named <;> cases named <;> rfl

theorem timingConditionOfCode_names : Names timingConditionCode timingConditionOfCode := by
  intro v b named
  unfold timingConditionOfCode at named
  split at named <;> cases named <;> rfl

theorem portConditionOfCode_names : Names portConditionCode portConditionOfCode := by
  intro v b named
  unfold portConditionOfCode at named
  split at named <;> cases named <;> rfl

theorem supplyConditionOfCode_names : Names supplyConditionCode supplyConditionOfCode := by
  intro v b named
  unfold supplyConditionOfCode at named
  split at named <;> cases named <;> rfl

theorem faultSystemOfCode_names : Names FaultSystem.code faultSystemOfCode := by
  intro v b named
  unfold faultSystemOfCode at named
  split at named <;> cases named <;> rfl

theorem faultClassOfCode_names : Names FaultClass.code faultClassOfCode := by
  intro v b named
  unfold faultClassOfCode at named
  split at named <;> cases named <;> rfl

theorem lampModeOfCode_names : Names LampMode.code lampModeOfCode := by
  intro v b named
  unfold lampModeOfCode at named
  split at named <;> cases named <;> rfl

theorem defaultRouteOfCode_names : Names defaultRouteCode defaultRouteOfCode := by
  intro v b named
  unfold defaultRouteOfCode at named
  split at named <;> cases named <;> rfl

variable {α β : Type} {numbers : α → List Int} {e : α} {f : Nat}

/-- A write sets the number of one field and leaves the others. -/
def SetsNumber (numbers : α → List Int) (e : α) (f : Nat) (v : Int) (e' : α) : Prop :=
  (∃ before, (numbers e)[f]? = some before) ∧ numbers e' = (numbers e).set f v

theorem writeNat_sets {lo hi : Nat} {v : Int} {set : Nat → α}
    (sets : ∀ x, x ≤ hi → SetsNumber numbers e f x (set x)) :
    (writeNat lo hi v set).Gives (SetsNumber numbers e f v) := by
  unfold writeNat
  split
  · next range =>
    have set := sets v.toNat (by omega)
    rwa [Int.toNat_of_nonneg (by omega)] at set
  · trivial

theorem writeInt_sets {lo hi v : Int} {set : Int → α} (sets : ∀ x, SetsNumber numbers e f x (set x)) :
    (writeInt lo hi v set).Gives (SetsNumber numbers e f v) := by
  unfold writeInt
  split
  · exact sets v
  · trivial

theorem writeFlag_sets {v : Int} {set : Bool → α} (sets : ∀ b, SetsNumber numbers e f (flagNumber b) (set b)) :
    (writeFlag v set).Gives (SetsNumber numbers e f v) := by
  unfold writeFlag
  split
  · next zero => rw [zero]; exact sets false
  · split
    · next one => rw [one]; exact sets true
    · trivial

theorem writeCode_sets {code : β → Nat} {ofCode : Int → Option β} (names : Names code ofCode) {v : Int} {set : β → α}
    (sets : ∀ b, SetsNumber numbers e f (code b) (set b)) :
    (writeCode ofCode v set).Gives (SetsNumber numbers e f v) := by
  unfold writeCode
  split
  · next b named => rw [← names v b named]; exact sets b
  · trivial

theorem writeRate_sets {v : Int} {set : Nat → α} (sets : ∀ x : Nat, SetsNumber numbers e f x (set x)) :
    (writeRate v set).Gives (SetsNumber numbers e f v) := by
  unfold writeRate
  split
  · have set := sets v.toNat
    rwa [Int.toNat_of_nonneg (by omega)] at set
  · trivial

theorem writePeriod_sets {v : Int} {set : Nat → α} (sets : ∀ x : Nat, SetsNumber numbers e f x (set x)) :
    (writePeriod v set).Gives (SetsNumber numbers e f v) := by
  unfold writePeriod
  split
  · have set := sets v.toNat
    rwa [Int.toNat_of_nonneg (by omega)] at set
  · trivial

theorem writePattern_sets {v : Int} {set : Pattern → α} (sets : ∀ x : Pattern, SetsNumber numbers e f x.toNat (set x)) :
    (writePattern v set).Gives (SetsNumber numbers e f v) := by
  unfold writePattern
  split
  · have set := sets (BitVec.ofNat 16 v.toNat)
    rwa [BitVec.toNat_ofNat, Nat.mod_eq_of_lt (by omega), Int.toNat_of_nonneg (by omega)] at set
  · trivial

/-- A defect mask carries each number from 0 to 15 (R179). -/
theorem DefectMask.number_ofNumber : ∀ x ≤ 15, (DefectMask.ofNumber x).number = x := by decide

end Writing

/-! ## Writing one field of a record -/

section Records

theorem Settings.writeField_sets (e : Settings) (v : Int) (f : Nat) :
    (e.writeField v f).Gives (SetsNumber Settings.numbers e f v) := by
  unfold Settings.writeField
  match f with
  | 0 | 1 | 2 | 3 | 8 | 9 | 10 | 11 | 13 | 14 | 15 | 17 | 18 => exact writeNat_sets fun _ _ => ⟨⟨_, rfl⟩, rfl⟩
  | 4 | 5 => exact writeRate_sets fun _ => ⟨⟨_, rfl⟩, rfl⟩
  | 6 | 7 => exact writeCode_sets defaultRouteOfCode_names fun _ => ⟨⟨_, rfl⟩, rfl⟩
  | 12 => exact writePeriod_sets fun _ => ⟨⟨_, rfl⟩, rfl⟩
  | 16 => exact writeFlag_sets fun _ => ⟨⟨_, rfl⟩, rfl⟩
  | 19 | 20 => exact writePattern_sets fun _ => ⟨⟨_, rfl⟩, rfl⟩
  | _ + 21 => trivial

theorem FrameEntry.writeField_sets (e : FrameEntry) (v : Int) (f : Nat) :
    (e.writeField v f).Gives (SetsNumber FrameEntry.numbers e f v) := by
  unfold FrameEntry.writeField
  match f with
  | 0 => exact writeCode_sets portOfCode_names fun _ => ⟨⟨_, rfl⟩, rfl⟩
  | 1 | 2 | 5 | 8 | 9 | 11 | 12 | 13 => exact writeNat_sets fun _ _ => ⟨⟨_, rfl⟩, rfl⟩
  | 3 => exact writeCode_sets routeOfCode_names fun _ => ⟨⟨_, rfl⟩, rfl⟩
  | 4 | 7 => exact writeFlag_sets fun _ => ⟨⟨_, rfl⟩, rfl⟩
  | 6 => exact writeCode_sets nibbleOfCode_names fun _ => ⟨⟨_, rfl⟩, rfl⟩
  | 10 => exact writeCode_sets frameTimingOfCode_names fun _ => ⟨⟨_, rfl⟩, rfl⟩
  | _ + 14 => trivial

theorem SignalEntry.writeField_sets (e : SignalEntry) (v : Int) (f : Nat) :
    (e.writeField v f).Gives (SetsNumber SignalEntry.numbers e f v) := by
  unfold SignalEntry.writeField
  match f with
  | 0 | 2 | 3 | 4 | 7 => exact writeNat_sets fun _ _ => ⟨⟨_, rfl⟩, rfl⟩
  | 1 => exact writeCode_sets extractionOfCode_names fun _ => ⟨⟨_, rfl⟩, rfl⟩
  | 5 | 9 => exact writeFlag_sets fun _ => ⟨⟨_, rfl⟩, rfl⟩
  | 6 | 8 | 10 => exact writeInt_sets fun _ => ⟨⟨_, rfl⟩, rfl⟩
  | _ + 11 => trivial

theorem WatchEntry.writeField_sets (e : WatchEntry) (v : Int) (f : Nat) :
    (e.writeField v f).Gives (SetsNumber WatchEntry.numbers e f v) := by
  unfold WatchEntry.writeField
  match f with
  | 0 => exact writeCode_sets watchKindOfCode_names fun _ => ⟨⟨_, rfl⟩, rfl⟩
  | 1 | 4 | 5 => exact writeFlag_sets fun _ => ⟨⟨_, rfl⟩, rfl⟩
  | 2 | 6 | 7 | 8 | 12 | 13 | 14 | 17 => exact writeNat_sets fun _ _ => ⟨⟨_, rfl⟩, rfl⟩
  | 3 => exact writeCode_sets gateSenseOfCode_names fun _ => ⟨⟨_, rfl⟩, rfl⟩
  | 9 => exact writeCode_sets comparisonOfCode_names fun _ => ⟨⟨_, rfl⟩, rfl⟩
  | 10 | 11 => exact writeInt_sets fun _ => ⟨⟨_, rfl⟩, rfl⟩
  | 15 => exact writeCode_sets timingConditionOfCode_names fun _ => ⟨⟨_, rfl⟩, rfl⟩
  | 16 =>
    exact writeNat_sets fun x bound => ⟨⟨_, rfl⟩,
      congrArg (fun n : Nat => e.numbers.set 16 (n : Int)) (DefectMask.number_ofNumber x bound)⟩
  | 18 => exact writeCode_sets portOfCode_names fun _ => ⟨⟨_, rfl⟩, rfl⟩
  | 19 => exact writeCode_sets portConditionOfCode_names fun _ => ⟨⟨_, rfl⟩, rfl⟩
  | 20 => exact writeCode_sets supplyConditionOfCode_names fun _ => ⟨⟨_, rfl⟩, rfl⟩
  | _ + 21 => trivial

/-- A fault entry has six index fields for its snapshots (R78). -/
theorem FaultEntry.writeField_sets (e : FaultEntry) (six : e.snapshots.length = 6) (v : Int) (f : Nat) :
    (e.writeField v f).Gives (SetsNumber FaultEntry.numbers e f v) := by
  obtain ⟨code, system, cls, severity, threshold, up, down, resets, aging, mode, length, snapshots⟩ := e
  obtain ⟨s0, s1, s2, s3, s4, s5, rfl⟩ : ∃ s0 s1 s2 s3 s4 s5, snapshots = [s0, s1, s2, s3, s4, s5] := by
    match snapshots, six with
    | [s0, s1, s2, s3, s4, s5], _ => exact ⟨s0, s1, s2, s3, s4, s5, rfl⟩
  unfold FaultEntry.writeField
  match f with
  | 0 | 3 | 4 | 5 | 6 | 8 | 10 | 11 | 12 | 13 | 14 | 15 | 16 => exact writeNat_sets fun _ _ => ⟨⟨_, rfl⟩, rfl⟩
  | 1 => exact writeCode_sets faultSystemOfCode_names fun _ => ⟨⟨_, rfl⟩, rfl⟩
  | 2 => exact writeCode_sets faultClassOfCode_names fun _ => ⟨⟨_, rfl⟩, rfl⟩
  | 7 => exact writeFlag_sets fun _ => ⟨⟨_, rfl⟩, rfl⟩
  | 9 => exact writeCode_sets lampModeOfCode_names fun _ => ⟨⟨_, rfl⟩, rfl⟩
  | _ + 17 => trivial

end Records

/-! ## Writing one field of the tables (R156) -/

section TableFields

variable {α : Type} {numbers : α → List Int} {read : α → Nat → Option Int}

theorem SetsNumber.reads (reads : ∀ e f, read e f = (numbers e)[f]?) {e e' : α} {f : Nat} {v : Int}
    (sets : SetsNumber numbers e f v e') : read e' f = some v ∧ ∀ g, g ≠ f → read e' g = read e g := by
  obtain ⟨⟨before, held⟩, written⟩ := sets
  have inside := (List.getElem?_eq_some_iff.1 held).1
  refine ⟨by rw [reads, written, List.getElem?_set_self inside], fun g other => ?_⟩
  rw [reads, reads, written, List.getElem?_set_ne (Ne.symm other)]

/-- A written list of entries reads back the field, and every other field as before. -/
theorem writeEntry_reads (reads : ∀ e f, read e f = (numbers e)[f]?) {xs ys : List α} {i f : Nat} {v : Int}
    {write : α → FieldWrite α} (sets : ∀ e ∈ xs, (write e).Gives (SetsNumber numbers e f v))
    (written : writeEntry xs i write = .ok ys) :
    readEntry ys i (read · f) = some v
    ∧ ∀ j g, (j, g) ≠ (i, f) → readEntry ys j (read · g) = readEntry xs j (read · g) := by
  unfold writeEntry at written
  split at written
  · cases written
  · next e held =>
    have given := sets e (List.mem_of_getElem? held)
    split at written
    · cases written
    · cases written
    · next e' ok =>
      rw [ok] at given
      obtain rfl := FieldWrite.ok.inj written
      obtain ⟨back, others⟩ := given.reads reads
      have inside := (List.getElem?_eq_some_iff.1 held).1
      unfold readEntry
      refine ⟨by rw [List.getElem?_set_self inside]; exact back, fun j g other => ?_⟩
      by_cases here : j = i
      · subst here
        rw [List.getElem?_set_self inside, held]
        exact others g fun same => other (same ▸ rfl)
      · rw [List.getElem?_set_ne (Ne.symm here)]

theorem FieldWrite.map_eq_ok {β : Type} {g : α → β} {w : FieldWrite α} {b : β} (ok : w.map g = .ok b) :
    ∃ a, w = .ok a ∧ b = g a := by
  cases w with
  | noField | badValue => cases ok
  | ok a => exact ⟨a, rfl, (FieldWrite.ok.inj ok).symm⟩

end TableFields

/-- Settles O49: a write sets one number of one record. -/
theorem writtenFieldsReadBack : Obligations.WrittenFieldsReadBack := by
  intro t u name i f v six written
  cases name with
  | settings =>
    change (if i = 0 then (t.settings.writeField v f).map _ else .noField) = _ at written
    split at written
    · next zero =>
      obtain ⟨e, ok, rfl⟩ := FieldWrite.map_eq_ok written
      have given := t.settings.writeField_sets v f
      rw [ok] at given
      obtain ⟨back, others⟩ := SetsNumber.reads Settings.readField_eq given
      refine ⟨(if_pos zero).trans back, fun name' j g other => ?_⟩
      cases name' with
      | settings =>
        refine ite_congr rfl (fun first => others g fun same => other ?_) fun _ => rfl
        rw [first, zero, same]
      | frames | signals | watches | faults => rfl
    · cases written
  | frames =>
    obtain ⟨l, ok, rfl⟩ := FieldWrite.map_eq_ok written
    obtain ⟨back, others⟩ := writeEntry_reads FrameEntry.readField_eq (fun e _ => e.writeField_sets v f) ok
    refine ⟨back, fun name' j g other => ?_⟩
    cases name' with
    | frames => exact others j g fun same => other (same ▸ rfl)
    | settings | signals | watches | faults => rfl
  | signals =>
    obtain ⟨l, ok, rfl⟩ := FieldWrite.map_eq_ok written
    obtain ⟨back, others⟩ := writeEntry_reads SignalEntry.readField_eq (fun e _ => e.writeField_sets v f) ok
    refine ⟨back, fun name' j g other => ?_⟩
    cases name' with
    | signals => exact others j g fun same => other (same ▸ rfl)
    | settings | frames | watches | faults => rfl
  | watches =>
    obtain ⟨l, ok, rfl⟩ := FieldWrite.map_eq_ok written
    obtain ⟨back, others⟩ := writeEntry_reads WatchEntry.readField_eq (fun e _ => e.writeField_sets v f) ok
    refine ⟨back, fun name' j g other => ?_⟩
    cases name' with
    | watches => exact others j g fun same => other (same ▸ rfl)
    | settings | frames | signals | faults => rfl
  | faults =>
    obtain ⟨l, ok, rfl⟩ := FieldWrite.map_eq_ok written
    obtain ⟨back, others⟩ := writeEntry_reads FaultEntry.readField_eq
      (fun e member => e.writeField_sets (six e member) v f) ok
    refine ⟨back, fun name' j g other => ?_⟩
    cases name' with
    | faults => exact others j g fun same => other (same ▸ rfl)
    | settings | frames | signals | watches => rfl

end Sys2Proof.Machine

namespace Sys2Proof.Machine

/-! ## Offers of responder frames (R7, R8, R149 to R151) -/

section Offers

variable {s : State} {f : TxFrame} {c : FrozenCopy}

theorem PortRecord.live_eq_false {p : PortRecord} (off : p.state = .busOff ∨ p.state = .off) : p.live = false := by
  obtain h | h := off <;> simp [PortRecord.live, h]

theorem State.offerResponse_joins (room : s.vehicle.hasRoom = true) :
    s.offerResponse f = s.setPort .vehicle (s.vehicle.join f) := by
  obtain ⟨-, joins⟩ | ⟨-, full, -⟩ | ⟨dead, -⟩ := s.offerResponse_cases f
  · exact joins
  · simp [full] at room
  · simp [PortRecord.hasRoom, dead] at room

theorem State.offerResponse_waits (live : s.vehicle.live = true) (full : s.vehicle.hasRoom = false) :
    s.offerResponse f = s.withResponder { s.responder with waiting := some f, partWaits := false } := by
  obtain ⟨room, -⟩ | ⟨-, -, waits⟩ | ⟨dead, -⟩ := s.offerResponse_cases f
  · simp [full] at room
  · exact waits
  · simp [dead] at live

theorem State.offerResponse_discards (dead : s.vehicle.live = false) :
    s.offerResponse f = s.withResponder (s.responder.afterDiscard f.restartOk) := by
  obtain ⟨room, -⟩ | ⟨live, -, -⟩ | ⟨-, discards⟩ := s.offerResponse_cases f
  · simp [PortRecord.hasRoom, dead] at room
  · simp [dead] at live
  · exact discards

theorem PortRecord.hasRoom_of_full {p : PortRecord} (full : 8 ≤ p.queue.length) : p.hasRoom = false := by
  rw [← Bool.not_eq_true, PortRecord.hasRoom_iff]
  omega

theorem State.offerPartFrame_joins (room : s.vehicle.hasRoom = true) (copy : s.responder.copy = some c) :
    s.offerPartFrame f = { s with
      vehicle := s.vehicle.join f
      responder := s.responder.partJoined c.partCount } := by
  obtain ⟨-, joins⟩ | ⟨-, full, -⟩ | ⟨dead, -⟩ := s.offerPartFrame_cases f
  · rw [joins]
    simp only [State.partJoined, State.setPort_responder, copy]
    rfl
  · simp [full] at room
  · simp [PortRecord.hasRoom, dead] at room

theorem State.offerPartFrame_waits (live : s.vehicle.live = true) (full : s.vehicle.hasRoom = false) :
    s.offerPartFrame f = s.withResponder { s.responder with waiting := some f, partWaits := true } := by
  obtain ⟨room, -⟩ | ⟨-, -, waits⟩ | ⟨dead, -⟩ := s.offerPartFrame_cases f
  · simp [full] at room
  · exact waits
  · simp [dead] at live

theorem State.offerPartFrame_discards (dead : s.vehicle.live = false) :
    s.offerPartFrame f = s.withResponder (s.responder.afterDiscard f.restartOk) := by
  obtain ⟨room, -⟩ | ⟨live, -, -⟩ | ⟨-, discards⟩ := s.offerPartFrame_cases f
  · simp [PortRecord.hasRoom, dead] at room
  · simp [dead] at live
  · exact discards

/-! ### Offers by a responder that has begun to make them -/

variable {r : Responder}

theorem State.offerPartOf_next (live : s.vehicle.state = .errorActive ∨ s.vehicle.state = .errorPassive)
    (space : s.vehicle.queue.length < 8) (copy : r.copy = some c) (more : r.nextPart + 1 < c.partCount) :
    (s.withResponder r).offerPartFrame f = { s with
      vehicle := s.vehicle.join f
      responder := { r with nextPart := r.nextPart + 1, partWaits := false } } := by
  have room : (s.withResponder r).vehicle.hasRoom = true := s.vehicle.hasRoom_iff.2 ⟨live, space⟩
  rw [State.offerPartFrame_joins room copy]
  exact congrArg (fun q => { s with vehicle := s.vehicle.join f, responder := q }) (if_pos more)

theorem State.offerPartOf_last (live : s.vehicle.state = .errorActive ∨ s.vehicle.state = .errorPassive)
    (space : s.vehicle.queue.length < 8) (copy : r.copy = some c) (last : c.partCount ≤ r.nextPart + 1) :
    (s.withResponder r).offerPartFrame f = { s with vehicle := s.vehicle.join f, responder := r.finished } := by
  have room : (s.withResponder r).vehicle.hasRoom = true := s.vehicle.hasRoom_iff.2 ⟨live, space⟩
  rw [State.offerPartFrame_joins room copy]
  exact congrArg (fun q => { s with vehicle := s.vehicle.join f, responder := q }) (if_neg (Nat.not_lt.2 last))

theorem State.offerPartOf_waits (live : s.vehicle.state = .errorActive ∨ s.vehicle.state = .errorPassive)
    (full : 8 ≤ s.vehicle.queue.length) :
    (s.withResponder r).offerPartFrame f = s.withResponder { r with waiting := some f, partWaits := true } :=
  State.offerPartFrame_waits (s := s.withResponder r) (s.vehicle.live_iff.2 live) (PortRecord.hasRoom_of_full full)

theorem State.offerPartOf_discards (dead : s.vehicle.live = false) :
    (s.withResponder r).offerPartFrame f = s.withResponder (r.afterDiscard f.restartOk) :=
  State.offerPartFrame_discards (s := s.withResponder r) dead

/-- A frame that is no OK frame of a RESTART takes no restart with it when it is discarded (R162). -/
theorem Responder.afterDiscard_plain (r : Responder) : r.afterDiscard false =
    { r with state := .idle, copy := none, nextPart := 0, departed := false, partWaits := false } := by
  simp [Responder.afterDiscard]

/-- A response has more than one part (R151). -/
theorem FrozenCopy.one_lt_partCount (x : FrozenCopy) : 1 < x.partCount := by
  cases x with
  | record stored r => exact Nat.lt_of_lt_of_le (by decide) (Nat.le_add_right 3 _)
  | frameState r => exact (by decide : 1 < 5)
  | signal x => exact (by decide : 1 < 2)

end Offers

/-- Settles O42: the three outcomes of an offer. -/
theorem responderFramesJoinWaitOrAreDiscarded : Obligations.ResponderFramesJoinWaitOrAreDiscarded := by
  intro s f
  refine ⟨fun live space => ?_, fun live full => ?_, fun off => ?_⟩
  · exact State.offerResponse_joins ((s.vehicle.hasRoom_iff).2 ⟨live, space⟩)
  · exact State.offerResponse_waits ((s.vehicle.live_iff).2 live) (PortRecord.hasRoom_of_full full)
  · exact State.offerResponse_discards (PortRecord.live_eq_false off)

section Reoffers

variable {s : State} {f : TxFrame} {c : FrozenCopy}

theorem State.offerPart_of_due (copy : s.responder.copy = some c) (sending : s.responder.state = .sending)
    (free : s.responder.waiting = none) (departed : s.responder.departed = true) :
    s.offerPart = (s.withResponder { s.responder with departed := false }).offerPartFrame
      (s.responseFrame (c.part s.responder.nextPart) false) := by
  unfold State.offerPart
  rw [copy]
  exact if_pos ⟨sending, free, departed⟩

theorem State.reofferWaiting_single (waiting : s.responder.waiting = some f) (departed : s.responder.departed = true)
    (single : s.responder.partWaits = false) :
    s.reofferWaiting = (s.withResponder
      { s.responder with waiting := none, departed := false, partWaits := false }).offerResponse f := by
  simp [State.reofferWaiting, waiting, departed, single]

theorem State.reofferWaiting_part (waiting : s.responder.waiting = some f) (departed : s.responder.departed = true)
    (part : s.responder.partWaits = true) :
    s.reofferWaiting = (s.withResponder
      { s.responder with waiting := none, departed := false, partWaits := false }).offerPartFrame f := by
  simp [State.reofferWaiting, waiting, departed, part]

end Reoffers

/-- Settles O47: the offer of a part at a departure by its outcomes, and every move keeps the responder sound. -/
theorem responsePartsAreOfferedInOrder : Obligations.ResponsePartsAreOfferedInOrder := by
  refine ⟨fun s c copy sending free departed => ?_, fun c s t sound run => ?_⟩
  · have offered : exec .responsePartOffer s = .next s.offerPart := rfl
    rw [offered, State.offerPart_of_due copy sending free departed]
    refine ⟨fun live space more => ?_, fun live space last => ?_, fun live full => ?_, fun busOff => ?_⟩
    · exact congrArg Host.Outcome.next (State.offerPartOf_next live space copy more)
    · exact congrArg Host.Outcome.next (State.offerPartOf_last live space copy last)
    · exact congrArg Host.Outcome.next (State.offerPartOf_waits live full)
    · rw [State.offerPartOf_discards (PortRecord.live_eq_false (.inl busOff))]
      exact congrArg (fun r => Host.Outcome.next (s.withResponder r)) (Responder.afterDiscard_plain _)
  · exact (State.moves_of_exec run).keeps (P := fun u => u.responder.sound) (fun _ _ move => move.responderSound) sound

/-- Settles O46: a waiting frame is offered as the single frame or the part that it is. -/
theorem waitingFramesAreOfferedAgain : Obligations.WaitingFramesAreOfferedAgain := by
  intro s f waiting departed
  have offered : exec .waitingFrameReoffer s = .next s.reofferWaiting := rfl
  rw [offered]
  refine ⟨fun live space single => ?_, fun c live space part copy more => ?_, fun c live space part copy last => ?_,
    fun live full => ?_, fun busOff => ?_⟩
  · rw [State.reofferWaiting_single waiting departed single]
    have joins := State.offerResponse_joins (f := f) (s := s.withResponder
      { s.responder with waiting := none, departed := false, partWaits := false })
      (s.vehicle.hasRoom_iff.2 ⟨live, space⟩)
    rw [joins, ← single]
    rfl
  · rw [State.reofferWaiting_part waiting departed part]
    exact congrArg Host.Outcome.next (State.offerPartOf_next live space copy more)
  · rw [State.reofferWaiting_part waiting departed part]
    exact congrArg Host.Outcome.next (State.offerPartOf_last live space copy last)
  · cases part : s.responder.partWaits with
    | false =>
      have waits := State.offerResponse_waits (f := f) (s := s.withResponder
        { s.responder with waiting := none, departed := false, partWaits := false })
        (s.vehicle.live_iff.2 live) (PortRecord.hasRoom_of_full full)
      rw [State.reofferWaiting_single waiting departed part, waits, ← waiting, ← part]
      rfl
    | true =>
      rw [State.reofferWaiting_part waiting departed part, State.offerPartOf_waits live full, ← waiting, ← part]
      rfl
  · cases part : s.responder.partWaits with
    | false =>
      have discards := State.offerResponse_discards (f := f) (s := s.withResponder
        { s.responder with waiting := none, departed := false, partWaits := false })
        (PortRecord.live_eq_false (.inl busOff))
      rw [State.reofferWaiting_single waiting departed part, discards]
      rfl
    | true =>
      rw [State.reofferWaiting_part waiting departed part,
        State.offerPartOf_discards (PortRecord.live_eq_false (.inl busOff))]
      rfl

/-! ## Served requests (R148, R150) -/

section Served

variable {s : State}

/-- A request that the responder is free for is handled by its own rule (R150, case 3). -/
theorem exec_served (takes : s.takesRequests) (q : Request) : exec q.command s = .next (s.serve q) := by
  have handled : exec q.command s = .next (s.handle q) := by cases q <;> rfl
  rw [handled, s.handle_served q takes]

/-- READ_STATUS is served while SENDING too (R150, case 2). -/
theorem exec_readStatus (awake : s.power = .running ∨ s.power = .afterRun) (free : s.responder.waiting = none)
    (calm : s.responder.restartPending = false) (page : Byte) :
    exec (.readStatus page) s = .next (s.serveReadStatus page) := by
  have isAwake : s.isAwake = true := by
    obtain h | h := awake <;> simp [State.isAwake, State.isRunning, State.inAfterRun, h]
  have handled : exec (.readStatus page) s = .next (s.handle (.readStatus page)) := rfl
  rw [handled]
  simp [State.handle, isAwake, free, Responder.refuses, calm, Request.isReadStatus, State.serve]

theorem ResponderState.code_eq (r : ResponderState) : r.code = if r = .sending then 1 else 0 := by cases r <;> rfl

end Served

/-- Settles O43: each read is the answer that its rule forms. -/
theorem singleFrameReadsAnswerTheirContents : Obligations.SingleFrameReadsAnswerTheirContents := by
  intro s
  refine ⟨fun awake free calm => ?_, fun takes => ?_⟩
  · refine ⟨?_, exec_readStatus awake free calm 1, fun page other0 other1 => ?_⟩
    · rw [exec_readStatus awake free calm, ← ResponderState.code_eq]
      rfl
    · rw [exec_readStatus awake free calm]
      simp only [State.serveReadStatus, State.statusPage, other0, other1, if_false]
      rfl
  · refine ⟨fun i w inUse held => ?_, fun i f r inUse held flags => ?_, fun t i f name v named held => ?_,
      fun t i f absent => ?_, fun code => exec_served takes (.badRequest code)⟩
    · have entry := (entryAt_eq_some s.working.settings.watchCount s.watches i.toNat w).2 ⟨inUse, held⟩
      rw [show Instr.readWatch i = (Request.readWatch i).command from rfl, exec_served takes]
      simp only [State.serve, State.serveReadWatch, entry]
      rfl
    · have entry := (entryAt_eq_some s.working.settings.faultCount s.faults i.toNat f).2 ⟨inUse, held⟩
      rw [show Instr.readFaultState i = (Request.readFaultState i).command from rfl, exec_served takes]
      simp only [State.serve, State.serveReadFaultState, entry, List.getD_eq_getElem?_getD, flags, Option.getD_some]
      rfl
    · rw [show Instr.readTable t i f = (Request.readTable t i f).command from rfl, exec_served takes]
      simp only [State.serve, State.serveReadTable, named, Option.bind_some, held]
      rfl
    · have none : ((TableName.ofCode t.toNat).bind fun n => s.staging.readField n i.toNat f.toNat) = none := by
        obtain noTable | ⟨name, named, noField⟩ := absent
        · rw [noTable]; rfl
        · rw [named]; exact noField
      rw [show Instr.readTable t i f = (Request.readTable t i f).command from rfl, exec_served takes]
      simp only [State.serve, State.serveReadTable, none]
      rfl

/-- Settles O48: a write is what `Tables.writeField` makes of staging. -/
theorem stagingRequestsEditStagingAlone : Obligations.StagingRequestsEditStagingAlone := by
  intro s takes
  have served : ∀ t i f v, exec (.writeTable t i f v) s = .next (s.serveWriteTable t i f v) :=
    fun t i f v => exec_served takes (.writeTable t i f v)
  refine ⟨fun t i f v name tables named written => ?_, fun t i f v name named refused => ?_, fun t i f v absent => ?_,
    exec_served takes .revert⟩
  · rw [served]
    simp only [State.serveWriteTable, Tables.writeByCode, named, written]
    rfl
  · rw [served]
    simp only [State.serveWriteTable, Tables.writeByCode, named, refused]
    rfl
  · have none : s.staging.writeByCode t i f v = .noField := by
      unfold Tables.writeByCode
      obtain noTable | ⟨name, named, noField⟩ := absent
      · rw [noTable]
      · rw [named]; exact noField
    rw [served]
    simp only [State.serveWriteTable, none]
    rfl

/-! ## Multi-frame responses (R149 to R151, R153, R154) -/

section Begun

variable {s : State} {c : FrozenCopy}

/-- The state after a copy has been frozen and part 0 offered (R149 to R151). -/
def State.begun (s : State) (c : FrozenCopy) : State :=
  let r := { s.responder with state := .sending, copy := some c, departed := false }
  let f : TxFrame := ⟨ownFrame s.working.settings.responseId (c.part 0), false⟩
  if s.vehicle.state = .errorActive ∨ s.vehicle.state = .errorPassive then
    if s.vehicle.queue.length < 8 then
      { s with
        vehicle := { s.vehicle with queue := s.vehicle.queue ++ [f] }
        responder := { r with nextPart := 1, partWaits := false } }
    else { s with responder := { r with nextPart := 0, waiting := some f, partWaits := true } }
  else { s with responder := { r with state := .idle, copy := none, nextPart := 0, partWaits := false } }

theorem State.beginParts_eq (s : State) (c : FrozenCopy) : s.beginParts c = s.begun c := by
  unfold State.beginParts State.begun
  dsimp only
  by_cases live : s.vehicle.state = .errorActive ∨ s.vehicle.state = .errorPassive
  · rw [if_pos live]
    by_cases space : s.vehicle.queue.length < 8
    · rw [if_pos space]
      exact State.offerPartOf_next live space rfl c.one_lt_partCount
    · rw [if_neg space]
      exact State.offerPartOf_waits live (Nat.le_of_not_lt space)
  · have dead : s.vehicle.live = false := by rw [← Bool.not_eq_true, PortRecord.live_iff]; exact live
    rw [if_neg live, State.offerPartOf_discards dead]
    exact congrArg s.withResponder (Responder.afterDiscard_plain _)

theorem entryAt_eq_none {α : Type} {n i : Nat} {xs : List α} (beyond : n ≤ i) : entryAt n xs i = none :=
  if_neg (Nat.not_lt.2 beyond)

end Begun

/-- Settles O44: each multi-frame read freezes its copy and offers part 0. -/
theorem multiFrameReadsFreezeACopy : Obligations.MultiFrameReadsFreezeACopy := by
  intro s takes
  have record : ∀ i, exec (.readRecord i) s = .next (s.serveReadRecord i) :=
    fun i => exec_served takes (.readRecord i)
  have frame : ∀ i, exec (.readFrameState i) s = .next (s.serveReadFrameState i) :=
    fun i => exec_served takes (.readFrameState i)
  have signal : ∀ i, exec (.readSignal i) s = .next (s.serveReadSignal i) :=
    fun i => exec_served takes (.readSignal i)
  have slot : ∀ (i : Byte) x, s.retained.slots[i.toNat]? = some x → s.retained.slots.getD i.toNat .empty = x := by
    intro i x held
    rw [List.getD_eq_getElem?_getD, held]; rfl
  have inside : ∀ i : Byte, i.toNat < 32 → i.toNat < Config.slotCount := fun _ bound => bound
  refine ⟨fun i r held bound => ?_, fun i r held bound => ?_, fun i held bound => ?_, fun i c held bound => ?_,
    fun i r inUse held => ?_, fun i c inUse held => ?_, fun i => ⟨fun beyond => ?_, fun beyond => ?_, fun beyond => ?_,
      fun beyond => ?_, fun beyond => ?_⟩⟩
  · rw [record, State.serveReadRecord, if_pos (inside i bound), slot i _ held]
    exact congrArg Host.Outcome.next (s.beginParts_eq _)
  · rw [record, State.serveReadRecord, if_pos (inside i bound), slot i _ held]
    exact congrArg Host.Outcome.next (s.beginParts_eq _)
  · rw [record, State.serveReadRecord, if_pos (inside i bound), slot i _ held]
    rfl
  · rw [record, State.serveReadRecord, if_pos (inside i bound), slot i _ held]
    rfl
  · rw [frame, State.serveReadFrameState, (entryAt_eq_some _ _ _ _).2 ⟨inUse, held⟩]
    exact congrArg Host.Outcome.next (s.beginParts_eq _)
  · rw [signal, State.serveReadSignal, (entryAt_eq_some _ _ _ _).2 ⟨inUse, held⟩]
    exact congrArg Host.Outcome.next (s.beginParts_eq _)
  · have outside : ¬ i.toNat < Config.slotCount := Nat.not_lt.2 beyond
    rw [record, State.serveReadRecord, if_neg outside]
    rfl
  · rw [frame, State.serveReadFrameState, entryAt_eq_none beyond]
    rfl
  · rw [signal, State.serveReadSignal, entryAt_eq_none beyond]
    rfl
  · have served : exec (.readWatch i) s = .next (s.serveReadWatch i) := exec_served takes (.readWatch i)
    rw [served, State.serveReadWatch, entryAt_eq_none beyond]
    rfl
  · have served : exec (.readFaultState i) s = .next (s.serveReadFaultState i) := exec_served takes (.readFaultState i)
    rw [served, State.serveReadFaultState, entryAt_eq_none beyond]
    rfl

/-- Settles O52: an accepted RESTART offers its OK frame. -/
theorem acceptedRestartsWaitForTheQueue : Obligations.AcceptedRestartsWaitForTheQueue := by
  intro s takes stationary idle
  have served : exec .restart s = .next s.serveRestart := exec_served takes .restart
  rw [served, State.serveRestart, if_neg (by simp [stationary]), if_neg idle]
  rfl

end Sys2Proof.Machine

namespace Sys2Proof.Machine

/-! ## Refused requests (R148, R150, R157, R159, R162) -/

section Refusals

variable {s : State}

theorem State.isAwake_iff (s : State) : s.isAwake = true ↔ s.power = .running ∨ s.power = .afterRun := by
  simp [State.isAwake, State.isRunning, State.inAfterRun]

theorem exec_command (s : State) (q : Request) : exec q.command s = .next (s.handle q) := by cases q <;> rfl

theorem State.handle_of_waiting (awake : s.power = .running ∨ s.power = .afterRun) (q : Request)
    (waits : s.responder.waiting.isSome = true) : s.handle q = s := by
  simp [State.handle, s.isAwake_iff.2 awake, waits]

theorem State.handle_of_busy (awake : s.power = .running ∨ s.power = .afterRun) {q : Request}
    (free : s.responder.waiting = none) (busy : s.responder.refuses q = true) :
    s.handle q = s.answered [q.code, 1] := by
  simp only [State.handle, s.isAwake_iff.2 awake, free, busy, Bool.not_true, Bool.false_eq_true, Option.isSome_none,
    if_false, if_true]
  rfl

theorem Request.isReadStatus_eq_false {q : Request} (other : ∀ page, q ≠ .readStatus page) :
    q.isReadStatus = false := by
  cases q with
  | readStatus page => exact absurd rfl (other page)
  | _ => rfl

theorem Responder.refuses_of_busy {r : Responder} {q : Request}
    (busy : r.restartPending = true ∨ (r.state = .sending ∧ ∀ page, q ≠ .readStatus page)) : r.refuses q = true := by
  unfold Responder.refuses
  obtain pending | ⟨sending, other⟩ := busy
  · simp [pending]
  · simp [sending, Request.isReadStatus_eq_false other]

theorem State.stationary_iff (s : State) : s.stationary = true ↔
    s.configured = false ∨ s.working.settings.speedPresent = false
      ∨ ∃ c, s.cache[s.working.settings.speedSignal]? = some c ∧ c.status = .valid ∧ c.value = 0 := by
  unfold State.stationary
  cases s.cache[s.working.settings.speedSignal]? <;> simp [or_assoc]

theorem any_isWriting_of_mem {slots : List Slot} (writing : ∃ x ∈ slots, x.isWriting = true) :
    slots.any Slot.isWriting = true := List.any_eq_true.2 writing

end Refusals

/-- Settles O53: a refused request is answered by the first branch of its rule that refuses it. -/
theorem refusedRequestsChangeNothingElse : Obligations.RefusedRequestsChangeNothingElse := by
  refine ⟨fun t => ⟨t.inconsistency_eq_none, t.inconsistency_eq_some⟩, fun s => ⟨s.stationary_iff, fun awake => ?_⟩⟩
  refine ⟨fun q waits => ?_, fun q free busy => ?_, fun takes => ?_⟩
  · rw [exec_command, State.handle_of_waiting awake q waits]
  · rw [exec_command, State.handle_of_busy awake free (Responder.refuses_of_busy busy)]
  · have clear : ∀ scope code, exec (.clear scope code) s = .next (s.serveClear scope code) :=
      fun scope code => exec_served takes (.clear scope code)
    have commit : exec .commit s = .next s.serveCommit := exec_served takes .commit
    have restart : exec .restart s = .next s.serveRestart := exec_served takes .restart
    refine ⟨fun scope code bad => ?_, fun scope code named moving => ?_, fun scope code named rests writing => ?_,
      fun moving => ?_, fun rests supply => ?_, fun rests normal writing => ?_, fun t i rests normal idle broken => ?_,
      fun moving => ?_, fun rests writing => ?_⟩
    · rw [clear, State.serveClear, bad]; rfl
    · obtain ⟨k, scopeIs⟩ := Option.isSome_iff_exists.1 named
      rw [clear, State.serveClear, scopeIs]
      exact congrArg Host.Outcome.next (if_pos (by simp [moving]))
    · obtain ⟨k, scopeIs⟩ := Option.isSome_iff_exists.1 named
      rw [clear, State.serveClear, scopeIs]
      exact congrArg Host.Outcome.next
        ((if_neg (by simp [rests])).trans (if_pos (any_isWriting_of_mem writing)))
    · have refused : s.commitRefusal = some (.notStationary, []) := if_pos (by simp [moving])
      rw [commit, State.serveCommit, refused]; rfl
    · have refused : s.commitRefusal = some (.supply, []) := (if_neg (by simp [rests])).trans (if_pos supply)
      rw [commit, State.serveCommit, refused]; rfl
    · have refused : s.commitRefusal = some (.storeBusy, []) :=
        (if_neg (by simp [rests])).trans ((if_neg (not_not.2 normal)).trans (if_pos writing))
      rw [commit, State.serveCommit, refused]; rfl
    · have refused : s.commitRefusal = some (.inconsistent, [byteOf t.code, byteOf i]) := by
        unfold State.commitRefusal
        rw [if_neg (by simp [rests]), if_neg (not_not.2 normal), if_neg idle, broken]
      rw [commit, State.serveCommit, refused]; rfl
    · rw [restart, State.serveRestart, if_pos (by simp [moving])]; rfl
    · rw [restart, State.serveRestart, if_neg (by simp [rests]), if_pos writing]; rfl

/-! ## An accepted COMMIT (R128, R132, R140, R158, R160) -/

section Commit

/-- A lamp at an accepted commit: its mode, and its pattern pending where the mode or the patterns change. -/
def Lamp.committed (l : Lamp) (old new : Settings) (m : LampMode) : Lamp :=
  { l with
    mode := m
    pendingPattern :=
      if l.mode ≠ m ∨ ((m = .slow ∨ m = .fast)
          ∧ ¬ (old.slowPattern = new.slowPattern ∧ old.fastPattern = new.fastPattern))
        then some (new.patternOf m) else l.pendingPattern }

theorem Lamp.setMode_eq (l : Lamp) (k : Settings) (m : LampMode) : l.setMode k m =
    { l with mode := m, pendingPattern := if l.mode = m then l.pendingPattern else some (k.patternOf m) } := by
  unfold Lamp.setMode
  split
  · next same => subst same; rfl
  · rfl

theorem Lamp.commit_eq (l : Lamp) (old new : Settings) (m : LampMode) : l.commit old new m = l.committed old new m := by
  unfold Lamp.commit Lamp.committed
  dsimp only
  rw [Lamp.setMode_eq]
  by_cases patterns : old.slowPattern = new.slowPattern ∧ old.fastPattern = new.fastPattern
  · rw [if_pos patterns]
    by_cases same : l.mode = m <;> simp [same, patterns]
  · rw [if_neg patterns]
    by_cases same : l.mode = m <;> cases m <;> simp [Lamp.repattern, same, patterns]

variable (s : State)

/-- The modes that R125 gives once staging is in force. -/
def State.committedMode (sys : FaultSystem) : LampMode :=
  if s.power = .running then
    (if s.bulbCheck.isSome = true then LampMode.steady
      else lampDemand s.staging (s.staging.faultList.map (·.derive s.retained.slots s.writeQueue)) sys)
  else .off

theorem State.installTables_modeOf (sys : FaultSystem) : s.installTables.modeOf sys = s.committedMode sys := by
  rw [State.modeOf_eq, ite_not]
  unfold State.committedMode
  exact if_congr Iff.rfl (if_congr (by simp [State.installTables]) rfl rfl) rfl

theorem Pacer.commit_eq (p : Pacer) (old new : Settings) : p.commit old new = { p with
    pendingRate := if new.reportsPerWindow = old.reportsPerWindow then p.pendingRate
      else some new.reportsPerWindow } := by
  unfold Pacer.commit
  by_cases same : old.reportsPerWindow = new.reportsPerWindow
  · rw [if_pos same, if_pos same.symm]
  · rw [if_neg same, if_neg (Ne.symm same)]

/-- The state once staging is in force, before the commit is announced to the PORT watches. -/
def State.committed : State :=
  { s with
    working := s.staging
    configured := true
    monitor := if s.power = .running then initialMonitor s.staging s.degraded s.now else stoppedMonitor s.staging
    cache := initialCache s.staging
    watches := uniformWatches s.staging (if s.power = .running then .notYet else .notRunning) s.now
    faults := deriveFaults s.staging s.retained.slots s.writeQueue
    retained := { s.retained with
      rideFlags := clearFlagsBelow s.staging.settings.faultCount s.retained.rideFlags }
    pacer := { s.pacer with pendingRate :=
      if s.staging.settings.reportsPerWindow = s.working.settings.reportsPerWindow
      then s.pacer.pendingRate else some s.staging.settings.reportsPerWindow }
    store := ⟨.writing, s.staging, 0, s.free.draw.1 % 301⟩
    engineLamp := s.engineLamp.committed s.working.settings s.staging.settings (s.committedMode .engine)
    brakeLamp := s.brakeLamp.committed s.working.settings s.staging.settings (s.committedMode .brake)
    free := s.free.draw.2 }

theorem State.commitLamps_installTables : s.installTables.commitLamps s.working.settings = s.committed := by
  unfold State.commitLamps
  rw [s.installTables_modeOf, s.installTables_modeOf, Lamp.commit_eq, Lamp.commit_eq]
  unfold State.installTables State.committed
  simp only [ite_of_iff s.isRunning_iff, Pacer.commit_eq]
  rfl

end Commit

/-- Settles O51: an accepted commit installs staging, sets the lamps, and is announced to the PORT watches. -/
theorem acceptedCommitsInstallStaging : Obligations.AcceptedCommitsInstallStaging := by
  intro s takes rests normal idle consistent
  have accepted : s.commitRefusal = none := by
    unfold State.commitRefusal
    rw [if_neg (by simp [rests]), if_neg (not_not.2 normal), if_neg idle, consistent]
  have served : exec .commit s = .next s.serveCommit := exec_served takes .commit
  refine ⟨s.acceptCommit, s.free.draw.1 % 301, s.free.draw.2, ?_, by omega, ?_⟩
  · rw [served, State.serveCommit, accepted]; rfl
  · intro old new faults mode lamp u
    have installed : s.installTables.commitLamps s.working.settings = u := s.commitLamps_installTables
    unfold State.acceptCommit State.afterEvent
    dsimp only
    rw [installed]
    by_cases running : u.power = .running
    · rw [if_pos running, if_pos (u.isRunning_iff.2 running)]
      exact u.watchEvent_takesEvent _
    · rw [if_neg running, if_neg (mt u.isRunning_iff.1 running)]

/-! ## An accepted CLEAR (R97, R117, R118, R125, R137) -/

section Clear

variable {t : Tables} {slots : List Slot} {q : List WriteEntry} {sel : Nat → Bool}

theorem mem_records {r : Record} :
    r ∈ slots.filterMap Slot.record ↔ Slot.active r ∈ slots ∨ Slot.stored r ∈ slots := by
  simp [List.mem_filterMap, Slot.record_eq_some, and_or_left, exists_or]

theorem WriteEntry.confirmsIn_iff {sys : FaultSystem} {c : Nat} {w : WriteEntry} :
    w.confirmsIn sys c = true ↔ ∃ x, w = .confirm x ∧ x.system = sys ∧ x.code = c := by
  cases w <;> simp [WriteEntry.confirmsIn]

/-- The codes of a system: of its working faults, its records, and its queued CONFIRM entries (R117). -/
theorem systemSelects_iff {sys : FaultSystem} {c : Nat} : systemSelects t slots q sys c = true ↔
    (∃ e ∈ t.faultList, e.system = sys ∧ e.code = c)
    ∨ (∃ r, (Slot.active r ∈ slots ∨ Slot.stored r ∈ slots) ∧ r.system = sys ∧ r.code = c)
    ∨ ∃ x, WriteEntry.confirm x ∈ q ∧ x.system = sys ∧ x.code = c := by
  simp only [systemSelects, Bool.or_eq_true, List.any_eq_true, Bool.and_eq_true, beq_iff_eq, mem_records,
    WriteEntry.confirmsIn_iff, or_assoc]
  refine or_congr_right (or_congr_right ⟨?_, ?_⟩)
  · rintro ⟨_, inQueue, x, rfl, named⟩
    exact ⟨x, inQueue, named⟩
  · rintro ⟨x, inQueue, named⟩
    exact ⟨_, inQueue, x, rfl, named⟩

theorem ClearScope.matchesIndex_iff (k : ClearScope) (i : Nat) : k.matchesIndex t i = true ↔
    ∃ e, entryAt t.settings.faultCount t.faults i = some e ∧ k.matchesFault e = true := by
  unfold ClearScope.matchesIndex
  cases entryAt t.settings.faultCount t.faults i <;> simp

theorem WriteEntry.cleared_age (cs : List Nat) : WriteEntry.cleared sel (.age cs) =
    if cs.filter (fun c => !sel c) = [] then none else some (.age (cs.filter fun c => !sel c)) := by
  rw [WriteEntry.cleared]
  cases cs.filter fun c => !sel c with
  | nil => exact (if_pos rfl).symm
  | cons c left => exact (if_neg (List.cons_ne_nil c left)).symm

/-- ALL leaves no entry of the write queue (R118). -/
theorem WriteEntry.cleared_all (w : WriteEntry) : w.cleared (fun _ => true) = none := by
  cases w with
  | age cs => simp [WriteEntry.cleared_age]
  | _ => rfl

theorem Slot.cleared_of_selected {x : Slot} (settled : x.isWriting = false) {c : Nat} (code : x.codeOf = some c)
    (selected : sel c = true) : x.cleared sel = .empty := by
  cases x with
  | empty => rfl
  | writing d => simp [Slot.isWriting] at settled
  | active r | stored r =>
    cases code
    exact if_pos selected

theorem Slot.cleared_of_other {x : Slot} (other : ∀ c, x.codeOf = some c → sel c = false) : x.cleared sel = x := by
  cases x with
  | empty | writing => rfl
  | active r | stored r => exact if_neg (by simp [other r.code rfl])

theorem ClearScope.system_beq (k : ClearScope) (x : FaultSystem) :
    (k.system == some x) = (k == .engine && x == .engine || k == .brake && x == .brake) := by
  cases k <;> cases x <;> rfl

theorem ClearScope.removesReport_eq (k : ClearScope) (e : ReportEntry) : k.removesReport sel e =
    (sel e.code || (k == .engine && e.system == .engine) || (k == .brake && e.system == .brake)) := by
  rw [ClearScope.removesReport, ClearScope.system_beq, Bool.or_assoc]

theorem clearScope_of_named {scope : Byte} {code : BitVec 16} {k : ClearScope}
    (named : (scope = 0 ∧ k = .all) ∨ (scope = 1 ∧ k = .engine) ∨ (scope = 2 ∧ k = .brake)
      ∨ (scope = 3 ∧ code ≠ 0 ∧ k = .code code.toNat)) : clearScope scope code = some k := by
  obtain ⟨rfl, rfl⟩ | ⟨rfl, rfl⟩ | ⟨rfl, rfl⟩ | ⟨rfl, nonzero, rfl⟩ := named
  · rfl
  · rfl
  · rfl
  · exact if_neg nonzero

end Clear

/-- Settles O50: what each scope selects, and the state that an accepted clear leaves. -/
theorem acceptedClearsTakeEffectAtOnce : Obligations.AcceptedClearsTakeEffectAtOnce := by
  refine ⟨fun k t slots q c => ?_, fun k t i => (k.matchesIndex_iff i).trans ?_,
    fun sel => ⟨fun _ => rfl, fun _ _ => rfl, WriteEntry.cleared_age⟩,
    fun s scope code k takes named rests settled => ?_⟩
  · cases k with
    | all => exact iff_true_intro rfl
    | engine | brake => exact systemSelects_iff
    | code d => exact beq_iff_eq
  · cases k with
    | all => exact exists_congr fun e => and_congr_right' (iff_true_intro rfl)
    | engine | brake | code => exact exists_congr fun e => and_congr_right' beq_iff_eq
  · have noneWriting : s.retained.slots.any Slot.isWriting = false := by simpa using settled
    have served : exec (.clear scope code) s = .next (s.serveClear scope code) := exec_served takes (.clear scope code)
    refine ⟨s.acceptClear k, ?_, ?_⟩
    · rw [served, State.serveClear, clearScope_of_named named]
      exact congrArg Host.Outcome.next ((if_neg (by simp [rests])).trans (if_neg (by simp [noneWriting])))
    intro sel lamp
    refine ⟨fun i f at_i => ?_, fun i f at_i => ?_, fun i x at_i => ⟨fun c code selected => ?_, fun other => ?_⟩,
      rfl, rfl, ?_, ?_, Lamp.setMode_eq .., Lamp.setMode_eq .., rfl⟩
    · rw [State.acceptClear_faults_getElem?, at_i, Option.map_some]
    · have mapped : (s.acceptClear k).retained.rideFlags[i]? = s.retained.rideFlags[i]?.map _ :=
        (mapFrom_getElem? _ s.retained.rideFlags 0 i).trans (by rw [Nat.zero_add])
      rw [mapped, at_i]; rfl
    · have mapped : (s.acceptClear k).retained.slots[i]? = s.retained.slots[i]?.map (Slot.cleared sel) :=
        List.getElem?_map
      rw [mapped, at_i, Option.map_some,
        Slot.cleared_of_selected (settled x (List.mem_of_getElem? at_i)) code selected]
    · have mapped : (s.acceptClear k).retained.slots[i]? = s.retained.slots[i]?.map (Slot.cleared sel) :=
        List.getElem?_map
      rw [mapped, at_i, Option.map_some, Slot.cleared_of_other other]
    · exact List.filter_congr fun e _ => by rw [ClearScope.removesReport_eq]
    · rintro rfl
      refine ⟨List.filterMap_eq_nil_iff.2 fun w _ => w.cleared_all, List.filter_eq_nil_iff.2 fun e _ => ?_⟩
      simp [ClearScope.removesReport, ClearScope.selects]

end Sys2Proof.Machine

namespace Sys2Proof.Machine

/-! ## One step (log entries 1, 3, 20 and 32) -/

/-- Settles O1: the front command of the queue is the one that a step takes. -/
theorem stepRunsTheFrontCommand : Obligations.StepRunsTheFrontCommand := fun _ _ _ => rfl

theorem getD_mem_cons {α : Type} (c : α) (cs : List α) (n : Nat) : (c :: cs).getD n c ∈ c :: cs := by
  rw [List.getD_eq_getElem?_getD]
  cases h : (c :: cs)[n]? with
  | none => exact List.mem_cons_self
  | some d => exact List.mem_of_getElem? h

/-- Which of the events that have fallen due happens next is drawn from the source of free choices. -/
theorem State.nextDue_cases (s : State) : (s.due = [] ∧ s.nextDue = none)
    ∨ ∃ c ∈ s.due, ∃ f, s.nextDue = some (c, { s with free := f }) := by
  unfold State.nextDue
  cases due : s.due with
  | nil => exact .inl ⟨rfl, rfl⟩
  | cons c cs =>
    refine .inr ?_
    cases cs with
    | nil => exact ⟨c, List.mem_singleton_self c, s.free, rfl⟩
    | cons d ds => exact ⟨_, getD_mem_cons c (d :: ds) _, _, rfl⟩

theorem step_of_due {s t : State} {c : Instr} (idle : s.pending = []) (next : s.nextDue = some (c, t)) :
    step s = exec c t := by
  simp only [step, idle, next]

theorem step_of_nothing_due {s : State} (idle : s.pending = []) (next : s.nextDue = none) :
    step s = .next s.tick := by
  simp only [step, idle, next]

/-- Settles O2: an event that has fallen due is drawn, and where none is due a millisecond passes. -/
theorem emptyQueueRunsADueEventOrAMillisecond : Obligations.EmptyQueueRunsADueEventOrAMillisecond := by
  intro s idle
  refine ⟨fun some_due => ?_, fun none_due => ?_⟩
  · obtain ⟨nil, -⟩ | ⟨c, due, f, next⟩ := s.nextDue_cases
    · exact absurd nil some_due
    · exact ⟨c, due, f, step_of_due idle next⟩
  · obtain ⟨-, next⟩ | ⟨c, due, -⟩ := s.nextDue_cases
    · refine ⟨s.tick, step_of_nothing_due idle next, ite_of_iff s.isAwake_iff _ _, fun w write => ?_,
        fun write => ?_, rfl⟩
      · unfold State.tick
        dsimp only
        rw [write]
        cases s.isAwake
        · exact ⟨w.elapsed, rfl⟩
        · exact ⟨w.elapsed + 1, rfl⟩
      · unfold State.tick
        dsimp only
        rw [write]
        cases s.isAwake <;> rfl
    · simp [none_due] at due

/-- Settles O3: every command answers a next state, and an operand that is no CAN frame is not received. -/
theorem everyCommandCompletes : Obligations.EveryCommandCompletes := by
  refine fun c s => ⟨by cases c <;> exact ⟨_, rfl⟩, fun malformed => ?_⟩
  cases c with
  | frameReceived p f =>
    have bad : f.wellFormed = false := malformed
    have received : exec (.frameReceived p f) s = execFrameReceived p f s := rfl
    rw [received, execFrameReceived, bad]
    rfl
  | _ => cases malformed

/-! ## The events of a port (R1, R3 to R8, R162) -/

section Ports

variable {s : State} {p : Port}

theorem PortRecord.withErrors_live {r : PortRecord} (live : r.state = .errorActive ∨ r.state = .errorPassive)
    (tx rx : Nat) : r.withErrors tx rx = { r with
      txErrors := tx
      rxErrors := rx
      state := if 128 ≤ tx ∨ 128 ≤ rx then .errorPassive else .errorActive } := by
  rw [PortRecord.withErrors, errorState_live _ _ _ live]

@[simp] theorem State.changePort_responder (s : State) (p : Port) (r : PortRecord) :
    (s.changePort p r).responder = s.responder :=
  (congrArg State.responder (s.changePort_frame p r)).trans (s.setPort_responder p r)

@[simp] theorem State.changePort_port_same (s : State) (p : Port) (r : PortRecord) : (s.changePort p r).port p = r :=
  (congrArg (·.port p) (s.changePort_frame p r)).trans ((by cases p <;> rfl : _ = _).trans (s.setPort_port_same p r))

/-- The responder takes no part in an event. -/
theorem State.watchEvent_withResponder (u : State) (reach : WatchEntry → Option Reach) (x : Responder) :
    (u.watchEvent reach).withResponder x = (u.withResponder x).watchEvent reach := rfl

theorem State.watchEvent_afterEvent {u : State} (running : u.power = .running) (reach : WatchEntry → Option Reach) :
    u.afterEvent reach (u.watchEvent reach) := by
  unfold State.afterEvent
  rw [if_pos running]
  exact u.watchEvent_takesEvent reach

theorem State.afterEvent_self {u : State} (off : u.power ≠ .running) (reach : WatchEntry → Option Reach) :
    u.afterEvent reach u := by
  unfold State.afterEvent
  rw [if_neg off]

/-- A port's record changes along with the responder: only a change of the port's state is announced (R1, R68). -/
theorem State.changePort_withResponder (s : State) (p : Port) (r : PortRecord) (x : Responder) :
    (r.state = (s.port p).state → (s.changePort p r).withResponder x = (s.setPort p r).withResponder x)
    ∧ (r.state ≠ (s.port p).state → State.afterEvent ((s.setPort p r).withResponder x)
        (reachPort ((s.setPort p r).withResponder x).view p) ((s.changePort p r).withResponder x)) := by
  refine ⟨fun same => by rw [s.changePort_same p r same], fun changed => ?_⟩
  by_cases running : s.power = .running
  · have announced : s.changePort p r = (s.setPort p r).watchEvent (reachPort (s.setPort p r).view p) :=
      if_pos ⟨changed.symm, (s.setPort p r).isRunning_iff.2 ((s.setPort_power p r).trans running)⟩
    rw [announced, State.watchEvent_withResponder]
    exact State.watchEvent_afterEvent (u := (s.setPort p r).withResponder x) ((s.setPort_power p r).trans running) _
  · rw [s.changePort_of_not_running p r running]
    exact State.afterEvent_self (u := (s.setPort p r).withResponder x)
      (ne_of_eq_of_ne (s.setPort_power p r) running) _

theorem Responder.okWaiting_eq (r : Responder) : r.okWaiting = r.waiting.any (·.restartOk) := by
  unfold Responder.okWaiting
  cases r.waiting <;> rfl

theorem Responder.afterEmptied_eq (r : Responder) (lostOk : Bool) : r.afterEmptied lostOk = { r with
      departed := r.departed || r.waiting.isSome || r.state == .sending
      restartPending := r.restartPending && !lostOk
      restartDue := r.restartDue && !lostOk } := by
  rw [Responder.afterEmptied, Responder.wantsDeparture, Bool.or_assoc]

theorem State.departedSent_vehicle (s : State) (r : PortRecord) :
    (s.changePort .vehicle r).departedSent .vehicle
      = (s.changePort .vehicle r).withResponder (s.responder.afterSent r.queue.isEmpty) := by
  have vehicle : (s.changePort .vehicle r).vehicle = r := s.changePort_port_same .vehicle r
  rw [State.departedSent, vehicle, State.changePort_responder]

/-- A change of a port leaves the responder as it is. -/
theorem State.changePort_withResponder_self (s : State) (p : Port) (r : PortRecord) :
    s.changePort p r = (s.changePort p r).withResponder s.responder :=
  have same : (s.changePort p r).withResponder (s.changePort p r).responder = s.changePort p r := rfl
  same.symm.trans (congrArg (State.withResponder _) (State.changePort_responder s p r))

theorem State.departedEmptied_vehicle (s : State) (r before : PortRecord) :
    (s.changePort .vehicle r).departedEmptied .vehicle before = (s.changePort .vehicle r).withResponder
      (if r.state = .busOff then s.responder.afterEmptied before.holdsOk else s.responder) := by
  have vehicle : (s.changePort .vehicle r).vehicle = r := s.changePort_port_same .vehicle r
  rw [State.departedEmptied, vehicle, State.changePort_responder]
  split
  · rfl
  · exact s.changePort_withResponder_self .vehicle r

theorem exec_receiveError (live : (s.port p).live = true) :
    exec (.receiveError p) s = .next (s.changePort p (s.port p).receiveFailed) :=
  congrArg Host.Outcome.next (if_pos live)

theorem PortRecord.offering_of_head {r : PortRecord} {f : TxFrame} {rest : List TxFrame} (live : r.live = true)
    (head : r.queue = f :: rest) : r.offering = true := by
  simp [PortRecord.offering, live, head]

theorem exec_transmitSuccess (offering : (s.port p).offering = true) :
    exec (.transmitSuccess p) s = .next ((s.changePort p (s.port p).sent).departedSent p) :=
  congrArg Host.Outcome.next (if_pos offering)

theorem exec_transmitError (offering : (s.port p).offering = true) :
    exec (.transmitError p) s = .next ((s.changePort p (s.port p).sendFailed).departedEmptied p (s.port p)) :=
  congrArg Host.Outcome.next (if_pos offering)

theorem exec_recoverySequence (off : (s.port p).state = .busOff) :
    exec (.recoverySequence p) s = .next (s.changePort p (s.port p).recovered) :=
  congrArg Host.Outcome.next (if_pos off)

theorem PortRecord.sent_of_head {r : PortRecord} {f : TxFrame} {rest : List TxFrame}
    (live : r.state = .errorActive ∨ r.state = .errorPassive) (head : r.queue = f :: rest) : r.sent = { r with
      queue := rest
      txErrors := r.txErrors - 1
      state := if 128 ≤ r.txErrors - 1 ∨ 128 ≤ r.rxErrors then .errorPassive else .errorActive } := by
  have tail : r.queue.tail = rest := by rw [head]; rfl
  rw [PortRecord.sent, tail]
  exact PortRecord.withErrors_live (r := { r with queue := rest }) live _ _

theorem PortRecord.sendFailed_of_head {r : PortRecord} {f : TxFrame} {rest : List TxFrame}
    (live : r.state = .errorActive ∨ r.state = .errorPassive) (head : r.queue = f :: rest) :
    r.sendFailed = if 255 < r.txErrors + 8 then
      { r with
        state := .busOff
        queue := []
        forwardDrop := min 255 (r.forwardDrop + (rest.length + 1))
        recovery := 0 }
      else
      { r with
        txErrors := r.txErrors + 8
        state := if 128 ≤ r.txErrors + 8 ∨ 128 ≤ r.rxErrors then .errorPassive else .errorActive } := by
  refine if_congr Iff.rfl ?_ (PortRecord.withErrors_live live _ _)
  rw [PortRecord.intoBusOff, head]
  rfl

/-- A failed attempt moves a port that is on its bus to BUS_OFF only where its count would pass 255 (R4, R5). -/
theorem PortRecord.sendFailed_busOff {r : PortRecord} (live : r.state = .errorActive ∨ r.state = .errorPassive) :
    r.sendFailed.state = .busOff ↔ 255 < r.txErrors + 8 := by
  unfold PortRecord.sendFailed
  split
  · next past => exact iff_of_true rfl past
  · next within =>
    rw [PortRecord.withErrors_live live]
    refine iff_of_false ?_ within
    dsimp only
    split <;> simp

end Ports

/-- Settles O5: the receive error count rises and the state follows it. -/
theorem receiveErrorRaisesTheCount : Obligations.ReceiveErrorRaisesTheCount := by
  intro p s live
  refine ⟨_, exec_receiveError ((s.port p).live_iff.2 live), ?_⟩
  rw [PortRecord.receiveFailed, PortRecord.withErrors_live live]
  exact ⟨s.changePort_same p _, s.changePort_afterEvent p _⟩

/-- Settles O6: the head leaves, and on the vehicle port the responder sees the departure. -/
theorem transmitSuccessSendsTheHead : Obligations.TransmitSuccessSendsTheHead := by
  intro p s f rest live head
  have offering := PortRecord.offering_of_head ((s.port p).live_iff.2 live) head
  refine ⟨_, exec_transmitSuccess offering, ?_⟩
  rw [PortRecord.sent_of_head live head]
  cases p with
  | control =>
    rw [State.departedSent, s.changePort_withResponder_self]
    exact s.changePort_withResponder .control _ _
  | vehicle =>
    rw [s.departedSent_vehicle, Responder.afterSent, Responder.okWaiting_eq, Responder.wantsDeparture, ← Bool.or_assoc]
    exact s.changePort_withResponder .vehicle _ _

/-- Settles O7: the count rises by 8, or the port enters BUS_OFF and its queue is emptied. -/
theorem transmitErrorRaisesTheCountOrEntersBusOff : Obligations.TransmitErrorRaisesTheCountOrEntersBusOff := by
  intro p s f rest live head
  have offering := PortRecord.offering_of_head ((s.port p).live_iff.2 live) head
  refine ⟨_, exec_transmitError offering, ?_⟩
  have busOff := PortRecord.sendFailed_busOff live
  rw [PortRecord.sendFailed_of_head live head] at busOff ⊢
  cases p with
  | control =>
    rw [State.departedEmptied, s.changePort_withResponder_self]
    exact s.changePort_withResponder .control _ _
  | vehicle =>
    have onVehicle := busOff.trans (and_iff_right (rfl : Port.vehicle = .vehicle)).symm
    have lost : (s.port .vehicle).holdsOk = (f :: rest).any (·.restartOk) := congrArg (·.any (·.restartOk)) head
    rw [s.departedEmptied_vehicle, if_congr onVehicle rfl rfl, Responder.afterEmptied_eq, lost]
    exact s.changePort_withResponder .vehicle _ _

/-- Settles O8: only a recovery sequence moves a port in BUS_OFF, and nothing one in OFF. -/
theorem onlyRecoveryMovesAPortOffItsBus : Obligations.OnlyRecoveryMovesAPortOffItsBus := by
  intro p s
  refine ⟨rfl, fun off more => ?_, fun off last => ?_, fun off => ?_⟩
  · have recovered : (s.port p).recovered = { s.port p with recovery := (s.port p).recovery + 1 } :=
      if_neg (Nat.not_le.2 more)
    rw [exec_recoverySequence off, recovered]
    exact congrArg Host.Outcome.next (s.changePort_same p _ rfl)
  · have recovered : (s.port p).recovered =
        { s.port p with state := .errorActive, txErrors := 0, rxErrors := 0, recovery := 0 } := if_pos last
    rw [exec_recoverySequence off, recovered]
    exact ⟨_, rfl, s.changePort_afterEvent p _ (by rw [off]; exact nofun)⟩
  · have dead : (s.port p).live = false := PortRecord.live_eq_false off.symm
    have silent : (s.port p).offering = false := by simp [PortRecord.offering, dead]
    exact ⟨congrArg Host.Outcome.next (if_neg (by simp [dead])), congrArg Host.Outcome.next (if_neg (by simp [silent])),
      congrArg Host.Outcome.next (if_neg (by simp [silent])),
      fun f => congrArg Host.Outcome.next (if_neg (by simp [dead]))⟩

end Sys2Proof.Machine

namespace Sys2Proof.Machine

/-! ## Received frames that are unknown, clash, or carry a request (R9, R10, R13 to R15) -/

section Reception

variable {s v : State} {p : Port} {f : CanFrame}

theorem State.sortFrame_of_foreign (foreign : f.format = .extended ∨ f.kind = .remote) :
    s.sortFrame p f = s.unknownFrame p f := if_pos foreign

theorem State.lookedUp_of_none (unnamed : s.working.lookup p f.ident = none) : s.lookedUp p f = s.unknownFrame p f := by
  simp only [State.lookedUp, unnamed]

/-- An unknown frame is one that R9 does not look up, or that no entry of the Frame Table names. -/
theorem State.sortFrame_of_unknown (unknown : f.format = .extended ∨ f.kind = .remote
      ∨ (s.looksUp p f ∧ s.working.lookup p f.ident = none)) : s.sortFrame p f = s.unknownFrame p f := by
  obtain extended | remote | ⟨looked, unnamed⟩ := unknown
  · exact State.sortFrame_of_foreign (.inl extended)
  · exact State.sortFrame_of_foreign (.inr remote)
  · rw [s.sortFrame_of_looksUp p f looked, State.lookedUp_of_none unnamed]

theorem State.unknownFrame_of_drop (route : s.working.settings.defaultRoute p = .drop) :
    s.unknownFrame p f = s.setPort p (s.port p).sawUnknown := by
  simp only [State.unknownFrame, route]

theorem State.unknownFrame_of_forward (route : s.working.settings.defaultRoute p = .forward) :
    s.unknownFrame p f = (s.setPort p (s.port p).sawUnknown).forward p.opposite f := by
  simp only [State.unknownFrame, route]

@[simp] theorem State.changePort_clashes (s : State) (p : Port) (r : PortRecord) :
    (s.changePort p r).clashes = s.clashes :=
  (congrArg State.clashes (s.changePort_frame p r)).trans (s.setPort_clashes p r)

theorem Settings.clashes_iff (t : Settings) (ident : Nat) :
    t.clashes ident = true ↔ ident = t.statusId ∨ ident = t.reportId ∨ ident = t.responseId := by
  simp [Settings.clashes, or_assoc]

theorem State.sortFrame_of_clash (standard : f.format = .standard) (data : f.kind = .data)
    (other : f.ident ≠ s.working.settings.requestId) (clash : s.working.settings.clashes f.ident = true) :
    s.sortFrame .vehicle f = s.countClash := by
  simp [State.sortFrame, standard, data, other, clash]

theorem State.sortFrame_of_request (standard : f.format = .standard) (data : f.kind = .data)
    (request : f.ident = s.working.settings.requestId) :
    s.sortFrame .vehicle f = s.handle (decodeRequest f.data) := by
  simp [State.sortFrame, standard, data, request]

end Reception

/-- Settles O9: an unknown frame is heard, counted, and dropped or routed across as its direction says. -/
theorem unknownFramesFollowTheDefaultRoute : Obligations.UnknownFramesFollowTheDefaultRoute := by
  intro p f s wellFormed hears unknown
  refine ⟨_, s.hasHeard_changePort p, ?_⟩
  have known : (s.changePort p (s.port p).heard).sortFrame p f.received
      = (s.changePort p (s.port p).heard).unknownFrame p f.received := by
    refine State.sortFrame_of_unknown (unknown.imp_right (Or.imp_right fun ⟨looked, unnamed⟩ => ⟨?_, ?_⟩))
    · rw [State.looksUp, State.changePort_working]; exact looked
    · rw [State.changePort_working]; exact unnamed
  have working := s.changePort_working p (s.port p).heard
  have port := s.changePort_port_same p (s.port p).heard
  rw [exec_frameReceived_of_hears s p f wellFormed hears, known]
  cases route : s.working.settings.defaultRoute p with
  | drop =>
    rw [State.unknownFrame_of_drop (by rw [working]; exact route), port]
    rfl
  | forward =>
    rw [State.unknownFrame_of_forward (by rw [working]; exact route), port, State.forward_received,
      State.setPort_port_opposite, State.changePort_port_opposite]
    rfl

/-- Settles O10: an identifier of the module's own is a clash, or the request that is then served. -/
theorem clashesAreCountedAndRequestFramesServed : Obligations.ClashesAreCountedAndRequestFramesServed := by
  intro f s wellFormed hears standard data
  have working := s.changePort_working .vehicle (s.port .vehicle).heard
  refine ⟨_, s.hasHeard_changePort .vehicle, fun other clash => ?_, fun request => ?_⟩
  · have counted : (s.changePort .vehicle (s.port .vehicle).heard).sortFrame .vehicle f.received
        = (s.changePort .vehicle (s.port .vehicle).heard).countClash :=
      State.sortFrame_of_clash standard data (by rw [working]; exact other)
        (by rw [working]; exact (Settings.clashes_iff _ _).2 clash)
    rw [exec_frameReceived_of_hears s .vehicle f wellFormed hears, counted, State.countClash, State.changePort_clashes]
    rfl
  · have handled : (s.changePort .vehicle (s.port .vehicle).heard).sortFrame .vehicle f.received
        = (s.changePort .vehicle (s.port .vehicle).heard).handle (decodeRequest f.data) :=
      State.sortFrame_of_request standard data (by rw [working]; exact request)
    rw [exec_frameReceived_of_hears s .vehicle f wellFormed hears, handled, exec_command]

/-! ## The expiry of a frame timer (R31, R32, R35) -/

section Expiry

variable {s : State} {i : Nat} {r : FrameRecord}

theorem State.expiryDue_iff {due : Nat} (running : s.power = .running) (entry : s.monitor[i]? = some r)
    (timer : r.timer = some due) : s.expiryDue i = true ↔ due ≤ s.now := by
  simp [State.expiryDue, s.isRunning_iff.2 running, entry, timer]

theorem State.recordOf_of_entry (entry : s.monitor[i]? = some r) : s.recordOf i = r := by
  rw [State.recordOf, List.getD_eq_getElem?_getD, entry]; rfl

theorem CacheEntry.goesStale_iff (c : CacheEntry) :
    c.goesStale = true ↔ c.status = .valid ∨ c.status = .unavailable := by simp [CacheEntry.goesStale]

theorem Tables.staledBy_eq (t : Tables) (i : Nat) (cache : List CacheEntry) (k : Nat) :
    t.staledBy i cache k = (t.drawnFrom i k
      && (cache[k]?).any fun c => c.status == .valid || c.status == .unavailable) := by
  unfold Tables.staledBy
  cases cache[k]? <;> rfl

theorem staleSignals_getElem? (t : Tables) (i : Nat) {cache : List CacheEntry} {k : Nat} {c : CacheEntry}
    (entry : cache[k]? = some c) : (staleSignals t i cache)[k]? = some
      (if t.drawnFrom i k = true ∧ (c.status = .valid ∨ c.status = .unavailable)
        then { c with status := .stale } else c) := by
  rw [staleSignals, mapFrom_getElem?, entry, Option.map_some, Nat.zero_add, CacheEntry.staled]
  refine congrArg some ?_
  rw [ite_and]
  exact if_congr Iff.rfl (ite_of_iff c.goesStale_iff _ _) rfl

theorem exec_frameTimerExpiry_of_due (due : s.expiryDue i = true) :
    exec (.frameTimerExpiry i) s = .next (s.expire i) := congrArg Host.Outcome.next (if_pos due)

theorem exec_frameTimerExpiry_of_not_due (early : ¬ s.expiryDue i = true) :
    exec (.frameTimerExpiry i) s = .next s := congrArg Host.Outcome.next (if_neg early)

end Expiry

/-- Settles O15: at its expiry time a timer makes its entry MISSING and its signals STALE. -/
theorem timerExpiryMakesTheEntryMissing : Obligations.TimerExpiryMakesTheEntryMissing := by
  intro s i r due running entry timer
  have isDue := State.expiryDue_iff running entry timer
  refine ⟨fun early => exec_frameTimerExpiry_of_not_due (mt isDue.1 (Nat.not_le.2 early)), fun late => ?_⟩
  refine ⟨s.expire i, exec_frameTimerExpiry_of_due (isDue.2 late), ?_, mapFrom_length _ _ _,
    fun k c at_k => staleSignals_getElem? s.working i at_k⟩
  have staled : s.working.staledBy i s.cache = fun k => s.working.drawnFrom i k
      && (s.cache[k]?).any fun c => c.status == .valid || c.status == .unavailable :=
    funext fun k => s.working.staledBy_eq i s.cache k
  have record := State.recordOf_of_entry entry
  unfold State.expire
  rw [staled, record]
  exact State.watchEvent_takesEvent _ _

end Sys2Proof.Machine

namespace Sys2Proof.Machine

/-! ## The begin of a slot write (R106 to R108, R111 to R113) -/

section Begins

variable {s : State} {head : WriteEntry} {rest : List WriteEntry} {e : ConfirmEntry} {c : Nat} {cs : List Nat}

theorem exec_writeBegin_of_head (awake : s.power = .running ∨ s.power = .afterRun) (idle : s.write = none)
    (supplied : s.band ≠ .low) (queue : s.writeQueue = head :: rest) :
    exec .writeBegin s = .next (s.beginHead head rest) := by
  have begins : s.canBeginWrite = true := by
    simp [State.canBeginWrite, s.isAwake_iff.2 awake, idle, supplied, queue]
  have started : exec .writeBegin s = execWriteBegin s := rfl
  simp only [started, execWriteBegin, begins, if_true, queue]

theorem State.beginSlotWrite_eq (s : State) (i : Nat) (c : Nat) (base : Option Record) :
    ∃ d f, d ≤ 5 ∧ s.beginSlotWrite i c base = { s with
      retained := { s.retained with slots := s.retained.slots.set i (.writing c) }
      write := some ⟨i, base, 0, d⟩
      free := f } :=
  ⟨s.free.draw.1 % 6, s.free.draw.2, by omega, rfl⟩

theorem State.beginHead_confirm {i : Nat} {base : Option Record}
    (found : confirmSlot s.retained.slots e = some (i, base)) :
    s.beginHead (.confirm e) rest = s.beginSlotWrite i e.code base := by
  simp only [State.beginHead, found]

theorem State.beginHead_confirm_none (found : confirmSlot s.retained.slots e = none) :
    s.beginHead (.confirm e) rest = s.unrecorded rest := by
  simp only [State.beginHead, found]

theorem State.beginHead_heal {i time : Nat} {r : Record} (found : healSlot s.retained.slots c = some (i, r)) :
    s.beginHead (.heal c time) rest = s.beginSlotWrite i c (some r) := by
  simp only [State.beginHead, found]

theorem State.beginHead_heal_none {time : Nat} (found : healSlot s.retained.slots c = none) :
    s.beginHead (.heal c time) rest = s.withQueue rest := by
  simp only [State.beginHead, found]

theorem State.beginHead_age {i : Nat} {r : Record} (found : ageSlot s.working s.retained.slots c = some (i, r)) :
    s.beginHead (.age (c :: cs)) rest = s.beginSlotWrite i c (some r) := by
  simp only [State.beginHead, found]

theorem dropAgeCode_cons (c : Nat) (cs : List Nat) (rest : List WriteEntry) :
    dropAgeCode (c :: cs) rest = if cs = [] then rest else .age cs :: rest := by
  cases cs <;> rfl

theorem State.beginHead_age_none (found : ageSlot s.working s.retained.slots c = none) :
    s.beginHead (.age (c :: cs)) rest = s.withQueue (if cs = [] then rest else .age cs :: rest) := by
  simp only [State.beginHead, found, dropAgeCode_cons]

end Begins

/-- Settles O26: the begin of the head's write, by the head and by what the search for its slot finds. -/
theorem writesBeginWithTheHead : Obligations.WritesBeginWithTheHead := by
  intro s rest awake idle supplied
  have begun : ∀ {head}, s.writeQueue = head :: rest → exec .writeBegin s = .next (s.beginHead head rest) :=
    exec_writeBegin_of_head awake idle supplied
  refine ⟨fun x queue => ⟨fun i base found => ?_, fun found => ?_⟩,
    fun c time queue => ⟨fun ⟨r, member, same⟩ => ?_, fun absent => ?_⟩,
    fun c cs queue => ⟨fun ⟨r, member, same⟩ ⟨e, working, code⟩ => ?_, fun absent => ?_⟩⟩
  · obtain ⟨d, f, short, write⟩ := s.beginSlotWrite_eq i x.code base
    exact ⟨d, f, short, by rw [begun queue, State.beginHead_confirm found, write]⟩
  · rw [begun queue, State.beginHead_confirm_none found]; rfl
  · obtain ⟨i, q, found⟩ := healSlot_of_active member same
    obtain ⟨entry, code⟩ := healSlot_eq_some found
    obtain ⟨d, f, short, write⟩ := s.beginSlotWrite_eq i c (some q)
    exact ⟨i, q, d, f, entry, code, short, by rw [begun queue, State.beginHead_heal found, write]⟩
  · rw [begun queue, State.beginHead_heal_none (healSlot_eq_none absent)]; rfl
  · have isWorking : (s.working.faultOf c).isSome = true := by
      rw [Option.isSome_iff_ne_none, Ne, Tables.faultOf_eq_none]
      exact fun none => none e working code
    obtain ⟨i, q, found⟩ := ageSlot_of_stored isWorking member same
    obtain ⟨-, entry, code⟩ := ageSlot_eq_some found
    obtain ⟨d, f, short, write⟩ := s.beginSlotWrite_eq i c (some q)
    exact ⟨i, q, d, f, entry, code, short, by rw [begun queue, State.beginHead_age found, write]⟩
  · rw [begun queue, State.beginHead_age_none (ageSlot_eq_none (absent.imp_right Tables.faultOf_eq_none.2))]; rfl

/-! ## The completion of a slot write (R109, R110, R112 to R114) -/

section Completions

variable {s : State} {rest : List WriteEntry} {i k d : Nat} {r : Record}

theorem exec_confirmWriteComplete {x : ConfirmEntry} {w : SlotWrite} (queue : s.writeQueue = .confirm x :: rest)
    (write : s.write = some w) : exec .confirmWriteComplete s
      = .next (s.finishWrite w.slot (.active (x.result w.base)) rest).restedPastLimit := by
  have completed : exec .confirmWriteComplete s = .next s.completeConfirm := rfl
  simp only [completed, State.completeConfirm, write, queue, State.standbyPastLimit_eq]

theorem exec_healWriteComplete {c time : Nat} (queue : s.writeQueue = .heal c time :: rest)
    (write : s.write = some ⟨i, some r, k, d⟩) :
    exec .healWriteComplete s = .next (s.finishWrite i (.stored r.healed) rest).restedPastLimit := by
  have completed : exec .healWriteComplete s = .next s.completeHeal := rfl
  simp only [completed, State.completeHeal, write, queue, State.standbyPastLimit_eq]

theorem exec_ageWriteComplete {c : Nat} {cs : List Nat} (queue : s.writeQueue = .age (c :: cs) :: rest)
    (write : s.write = some ⟨i, some r, k, d⟩) : exec .ageWriteComplete s
      = .next (s.completeAgeWrite i r (if cs = [] then rest else .age cs :: rest)).restedPastLimit := by
  have completed : exec .ageWriteComplete s = .next s.completeAge := rfl
  simp only [completed, State.completeAge, write, queue, dropAgeCode_cons, State.standbyPastLimit_eq]

theorem Record.erasedBy_iff (r : Record) (t : Tables) : r.erasedBy t = true ↔
    ∃ e, t.faultOf r.code = some e ∧ e.agingLimit ≠ 0 ∧ e.agingLimit ≤ r.cleanRides := by
  unfold Record.erasedBy
  cases t.faultOf r.code <;> simp

theorem State.completeAgeWrite_of_kept (kept : ∀ e, s.working.faultOf r.code = some e →
      e.agingLimit = 0 ∨ r.aged.cleanRides < e.agingLimit) (q : List WriteEntry) :
    s.completeAgeWrite i r q = s.finishWrite i (.stored r.aged) q := by
  refine if_neg fun erased => ?_
  obtain ⟨e, working, limited, reached⟩ := (r.aged.erasedBy_iff s.working).1 erased
  exact (kept e working).elim limited (Nat.not_lt.2 reached)

theorem State.completeAgeWrite_of_erased {e : FaultEntry} (working : s.working.faultOf r.code = some e)
    (limited : e.agingLimit ≠ 0) (reached : e.agingLimit ≤ r.aged.cleanRides) (q : List WriteEntry) :
    s.completeAgeWrite i r q
      = (s.finishWrite i .empty q).report (freshReport r.code r.system r.severity .aged s.now) :=
  if_pos ((r.aged.erasedBy_iff s.working).2 ⟨e, working, limited, reached⟩)

end Completions

/-- Settles O28: what each completion leaves in the slot, by the record that its write continues. -/
theorem writeCompletionsFillTheSlot : Obligations.WriteCompletionsFillTheSlot := by
  refine ⟨fun t c => ⟨fun e => Tables.faultOf_eq_some, Tables.faultOf_eq_none.2, fun ⟨e, working, code⟩ none => ?_⟩,
    fun s i k d rest => ⟨fun x queue => ⟨fun write => ?_, fun r write => ?_⟩, fun c time r queue write => ?_,
      fun c cs r queue write => ⟨fun kept => ?_, fun e working limited reached => ?_⟩⟩⟩
  · exact Tables.faultOf_eq_none.1 none e working code
  · rw [exec_confirmWriteComplete queue write]; rfl
  · rw [exec_confirmWriteComplete queue write]; rfl
  · rw [exec_healWriteComplete queue write]; rfl
  · rw [exec_ageWriteComplete queue write, State.completeAgeWrite_of_kept kept]; rfl
  · rw [exec_ageWriteComplete queue write, State.completeAgeWrite_of_erased working limited reached]; rfl

/-! ## The state after reset -/

/-- Settles O33: the state after reset meets every invariant. -/
theorem resetMeetsTheInvariants : Obligations.ResetMeetsTheInvariants := by
  have ports : State.reset.portsSound :=
    ⟨PortRecord.sound_fresh 500, PortRecord.sound_fresh 500, by decide, by decide, by decide⟩
  have queue : State.reset.writeQueueSound := ⟨by decide, nofun, fun _ => ⟨rfl, rfl⟩⟩
  have reports : reportsOrdered State.reset.reports := ⟨by decide, List.nodup_nil, .nil⟩
  have signals : State.reset.signalsFollowFrames := ⟨nofun, nofun⟩
  have counters : State.reset.countersSound :=
    ⟨⟨Tables.default_faultsInRange, Tables.default_faultsInRange, Tables.default_faultsInRange⟩, nofun⟩
  have lamps : State.reset.lampsSound := ⟨rfl, rfl, by decide, fun _ => ⟨rfl, rfl, rfl⟩⟩
  have memory : State.reset.memorySound := nofun
  have tables : State.reset.tablesSound := ⟨Tables.sound_default, fun _ => Tables.sound_default⟩
  exact ⟨ports, queue, reports, signals, counters, lamps, memory, Responder.sound_initial, tables,
    rfl, rfl, rfl, rfl, rfl, rfl, rfl, rfl, rfl, rfl, rfl⟩

end Sys2Proof.Machine

namespace Sys2Proof.Machine

/-! ## The lamp cycle (R125, R127 to R129) -/

section LampCycle

variable {s : State}

theorem Lamp.setMode_of_same {l : Lamp} {m : LampMode} (same : l.mode = m) (k : Settings) : l.setMode k m = l :=
  if_pos same

theorem Lamp.setMode_of_changed {l : Lamp} {m : LampMode} (changed : l.mode ≠ m) (k : Settings) :
    l.setMode k m = { l with mode := m, pendingPattern := some (k.patternOf m) } := if_neg changed

theorem exec_lampStep (running : s.power = .running) : exec .lampStep s = .next s.advanceStep :=
  congrArg Host.Outcome.next (if_pos (s.isRunning_iff.2 running))

theorem exec_cycleBoundary (running : s.power = .running) (due : s.boundaryDue = true) :
    exec .cycleBoundary s = .next s.crossBoundary :=
  congrArg Host.Outcome.next (if_pos (by rw [s.isRunning_iff.2 running, due]; rfl))

/-- The position counts modulo 16, and its return to 0 makes the boundary due (R127). -/
theorem State.advanceStep_eq (inCycle : s.stepPos < 16) : s.advanceStep = { s with
    stepPos := (s.stepPos + 1) % 16
    boundaryDue := s.boundaryDue || s.stepPos == 15
    lampElapsed := 0 } := by
  unfold State.advanceStep
  by_cases more : s.stepPos + 1 < 16
  · have notLast : (s.stepPos == 15) = false := beq_false_of_ne (by omega)
    rw [if_pos more, Nat.mod_eq_of_lt more, notLast, Bool.or_false]
  · have last : s.stepPos = 15 := by omega
    rw [if_neg more, last]
    simp

/-- The mode of a system with no bulb check in progress (R125). -/
def State.checkedMode (s : State) (sys : FaultSystem) : LampMode :=
  if s.configured = true then lampDemand s.working s.faults sys else .steady

theorem State.modeOf_checked (running : s.power = .running) (checked : s.bulbCheck = none) (sys : FaultSystem) :
    s.modeOf sys = s.checkedMode sys := by
  rw [State.modeOf_eq, if_neg (not_not.2 running), checked, State.checkedMode]
  cases s.configured <;> rfl

theorem State.placeLamps_checked (running : s.power = .running) (checked : s.bulbCheck = none) :
    s.placeLamps = { s with
      engineLamp := .placed s.working.settings (s.checkedMode .engine)
      brakeLamp := .placed s.working.settings (s.checkedMode .brake) } := by
  rw [State.placeLamps, State.modeOf_checked running checked, State.modeOf_checked running checked]

theorem State.crossBoundary_unchecked (idle : s.bulbCheck = none) :
    s.crossBoundary = State.cycleLamps { s with boundaryDue := false } := by
  simp only [State.crossBoundary, idle]

theorem State.crossBoundary_checking {n : Nat} (checking : s.bulbCheck = some (n + 2)) :
    s.crossBoundary = State.cycleLamps { s with boundaryDue := false, bulbCheck := some (n + 1) } := by
  simp only [State.crossBoundary, checking]
  exact if_neg (by omega)

theorem State.crossBoundary_last (last : s.bulbCheck = some 1) :
    s.crossBoundary = State.placeLamps { s with boundaryDue := false, bulbCheck := none } := by
  simp only [State.crossBoundary, last]
  exact if_pos (Nat.le_refl 1)

end LampCycle

/-- Settles O36: the step, the boundary by the bulb check's count, and what a new mode does to a lamp. -/
theorem lampsFollowTheirCycle : Obligations.LampsFollowTheirCycle := by
  refine ⟨fun l k m => ⟨fun same => Lamp.setMode_of_same same k, fun changed => ?_⟩, fun s running =>
    ⟨fun inCycle => ?_, fun due => ⟨fun idle => ?_, fun n checking => ?_, fun last => ?_⟩⟩⟩
  · rw [Lamp.setMode_of_changed changed]
    cases m <;> rfl
  · rw [exec_lampStep running, State.advanceStep_eq inCycle]
  · rw [exec_cycleBoundary running due, State.crossBoundary_unchecked idle]; rfl
  · rw [exec_cycleBoundary running due, State.crossBoundary_checking checking]; rfl
  · rw [exec_cycleBoundary running due, State.crossBoundary_last last]
    exact congrArg Host.Outcome.next
      (State.placeLamps_checked (s := { s with boundaryDue := false, bulbCheck := none }) running rfl)

/-! ## The slots of the pacer (R116, R139, R141, R142) -/

section PacerSlots

variable {s : State} {slots : List Slot} {code : Nat}

theorem exec_pacerSlot (running : s.pacer.running = true) (inWindow : s.pacer.nextSlot < 16) :
    exec .pacerSlot s = .next s.beginSlot := congrArg Host.Outcome.next (if_pos ⟨running, inWindow⟩)

theorem slotOpen_iff (k slot : Nat) : slotOpen k slot = true ↔ slot * k / 16 < (slot + 1) * k / 16 :=
  decide_eq_true_iff

/-- A report carries the occurrences of the record of its code, or 0 where there is none (R116). -/
theorem occurrencesOf_cases (slots : List Slot) (code : Nat) :
    (∃ r, (.active r ∈ slots ∨ .stored r ∈ slots) ∧ r.code = code ∧ occurrencesOf slots code = r.occurrences)
    ∨ ((∀ r, .active r ∈ slots ∨ .stored r ∈ slots → r.code ≠ code) ∧ occurrencesOf slots code = 0) := by
  unfold occurrencesOf
  cases found : (slots.filterMap Slot.record).find? (·.code == code) with
  | some r =>
    exact .inl ⟨r, mem_records.1 (List.mem_of_find?_eq_some found), by simpa using List.find?_some found, rfl⟩
  | none =>
    refine .inr ⟨fun r recorded same => ?_, rfl⟩
    simpa [same] using List.find?_eq_none.1 found r (mem_records.2 recorded)

theorem State.offerReport_sends {e : ReportEntry} {rest : List ReportEntry} (head : s.reports = e :: rest)
    (room : s.vehicle.hasRoom = true) :
    s.offerReport = { s with vehicle := s.vehicle.join ⟨s.reportFrame e, false⟩, reports := rest } := by
  simp only [State.offerReport, head, room, if_true]

theorem State.offerReport_keeps (nothing : s.reports = [] ∨ ¬ s.vehicle.hasRoom = true) : s.offerReport = s := by
  unfold State.offerReport
  cases head : s.reports with
  | nil => rfl
  | cons e rest => exact if_neg (nothing.resolve_left (by simp [head]))

end PacerSlots

/-- Settles O38: an open slot with room sends the head of the report queue. -/
theorem pacerSlotsSendTheHead : Obligations.PacerSlotsSendTheHead := by
  intro s running inWindow u isOpen room recorded
  have hasRoom : s.vehicle.hasRoom = true ↔ room := s.vehicle.hasRoom_iff
  have opens : slotOpen s.pacer.rate s.pacer.nextSlot = true ↔ isOpen := slotOpen_iff _ _
  rw [exec_pacerSlot running inWindow]
  refine ⟨fun e rest head open_slot space => ⟨occurrencesOf s.retained.slots e.code, ?_, ?_⟩, fun closed => ?_⟩
  · exact (occurrencesOf_cases s.retained.slots e.code).imp_left id
  · have sent : u.offerReport = { u with vehicle := u.vehicle.join ⟨u.reportFrame e, false⟩, reports := rest } :=
      State.offerReport_sends (s := u) head (hasRoom.2 space)
    exact congrArg Host.Outcome.next ((if_pos (opens.2 open_slot)).trans sent)
  · refine congrArg Host.Outcome.next ?_
    by_cases open_slot : isOpen
    · have kept : u.offerReport = u :=
        State.offerReport_keeps (s := u) ((closed.resolve_left (not_not.2 open_slot)).imp_right (mt hasRoom.1))
      exact (if_pos (opens.2 open_slot)).trans kept
    · exact if_neg (mt opens.1 open_slot)

/-! ## Lists by the index of another -/

section ByIndex

variable {α β γ : Type}

/-- The elements that an element and the one at its index in another list give together. -/
def atBoth (h : α → β → List γ) (ys : List β) (i : Nat) (x : α) : List γ :=
  match ys[i]? with
  | some y => h x y
  | none => []

theorem mapFrom_atBoth_flatten (h : α → β → List γ) (xs : List α) (ys : List β) (i : Nat) :
    (mapFrom (atBoth h ys) i xs).flatten = (xs.zip (ys.drop i)).flatMap fun p => h p.1 p.2 := by
  induction xs generalizing i with
  | nil => rfl
  | cons x xs ih =>
    rw [mapFrom, List.flatten_cons, ih]
    cases entry : ys[i]? with
    | some y =>
      obtain ⟨inside, rfl⟩ := List.getElem?_eq_some_iff.1 entry
      rw [List.drop_eq_getElem_cons inside, List.zip_cons_cons, List.flatMap_cons, atBoth, entry]
    | none =>
      have ended := List.getElem?_eq_none_iff.1 entry
      rw [List.drop_eq_nil_of_le ended, List.drop_eq_nil_of_le (Nat.le_succ_of_le ended), atBoth, entry]
      simp

end ByIndex

/-! ## The status broadcast (R90, R116, R144) -/

section StatusBroadcast

variable {s : State}

/-- A fault in ACTIVE or HEALING of an entry of the system (R90). -/
def activeIn (sys : FaultSystem) (x : FaultEntry × FaultState) : Bool :=
  x.1.system == sys && (x.2.state == .active || x.2.state == .healing)

theorem demanding_atBoth (t : Tables) (faults : List FaultState) (sys : FaultSystem) : demanding t faults sys =
    (mapFrom (atBoth (fun e f => if f.demands && e.system == sys then [e] else []) faults) 0 t.faultList).flatten := by
  unfold demanding
  refine congrArg (fun f => (mapFrom f 0 t.faultList).flatten) (funext fun i => funext fun e => ?_)
  unfold atBoth
  cases faults[i]? <;> rfl

theorem demanding_eq (t : Tables) (faults : List FaultState) (sys : FaultSystem) : demanding t faults sys =
    (t.faultList.zip faults).filterMap fun x => if activeIn sys x = true then some x.1 else none := by
  rw [demanding_atBoth, mapFrom_atBoth_flatten, List.drop_zero, List.filterMap_eq_flatMap_toList]
  refine List.flatMap_congr fun x _ => ?_
  rw [activeIn, Bool.and_comm, FaultState.demands]
  split <;> rfl

theorem activeCount_eq (t : Tables) (faults : List FaultState) (sys : FaultSystem) :
    activeCount t faults sys = ((t.faultList.zip faults).filter (activeIn sys)).length := by
  rw [activeCount, demanding_eq, List.length_filterMap_eq_countP, List.countP_eq_length_filter]
  refine congrArg List.length (List.filter_congr fun x _ => ?_)
  cases activeIn sys x <;> rfl

theorem recordCount_eq (slots : List Slot) : recordCount slots = (slots.filter fun x => x.record.isSome).length := by
  rw [recordCount, List.length_filterMap_eq_countP, List.countP_eq_length_filter]

theorem exec_statusExpiry (timed : s.statusPeriod.isSome = true) : exec .statusExpiry s = .next s.expireStatus :=
  congrArg Host.Outcome.next (if_pos timed)

theorem State.offerStatus_sends (room : s.vehicle.hasRoom = true) :
    s.offerStatus = { s with vehicle := s.vehicle.join ⟨s.statusFrame, false⟩ } := if_pos room

theorem State.offerStatus_skips (full : ¬ s.vehicle.hasRoom = true) : s.offerStatus = s := if_neg full

end StatusBroadcast

/-- Settles O40: the status frame's contents and counts, and the timer that restarts whether it is sent or not. -/
theorem statusTimerSendsAndRestarts : Obligations.StatusTimerSendsAndRestarts := by
  intro s timed count records
  have counted : ∀ sys, activeCount s.working s.faults sys = count sys := activeCount_eq s.working s.faults
  have recorded : recordCount s.retained.slots = records := by
    rw [recordCount_eq]
    refine congrArg List.length (List.filter_congr fun x _ => ?_)
    cases x <;> rfl
  rw [exec_statusExpiry timed]
  refine ⟨fun live space => ⟨s.statusFrame, rfl, rfl, rfl, rfl, ?_, ?_⟩, fun full => ?_⟩
  · rw [← counted, ← counted, ← recorded]; rfl
  · rw [State.expireStatus, State.offerStatus_sends (s.vehicle.hasRoom_iff.2 ⟨live, space⟩)]; rfl
  · have noRoom : ¬ s.vehicle.hasRoom = true := by
      rw [PortRecord.hasRoom_iff]
      rintro ⟨live | live, space⟩ <;> simp [live, Nat.not_le.2 space] at full
    rw [State.expireStatus, State.offerStatus_skips noRoom]

end Sys2Proof.Machine

namespace Sys2Proof.Machine

/-! ## Supply samples (R69, R73, R158, R163, R164) -/

section Samples

variable {s : State} {v : Nat} {b : Band}

theorem reachBand_of_tolerant {w : WatchEntry} (tolerant : w.needsNormal = false) (view : WatchView) (old : Band) :
    reachBand view old w = none := by simp [reachBand, tolerant]

theorem reachBand_suspends {w : WatchEntry} {view : WatchView} {old : Band} (needs : w.needsNormal = true)
    (before : old = .normal) (after : view.band ≠ .normal) : reachBand view old w = some (.untested .supply) := by
  simp [reachBand, needs, before, after]

theorem reachBand_stays {w : WatchEntry} {view : WatchView} {old : Band} (needs : w.needsNormal = true)
    (before : old ≠ .normal) (after : view.band ≠ .normal) : reachBand view old w = none := by
  simp [reachBand, needs, before, after]

theorem reachBand_restores {w : WatchEntry} {view : WatchView} {old : Band} (needs : w.needsNormal = true)
    (before : old ≠ .normal) (after : view.band = .normal) : reachBand view old w =
      some (if w.stateDriven = true then .evaluate (view.stateTest w) else .untested .notYet) := by
  simp [reachBand, needs, before, after]

/-- A sample records its level, and one below 3.0 V takes retained memory with it (R163, R166). -/
theorem State.readBattery_eq (s : State) (v : Nat) : ∃ r f, s.readBattery v
      = { s with battery := v, sampleElapsed := 0, retained := r, free := f }
    ∧ (30 ≤ v → r = s.retained ∧ f = s.free) ∧ (v < 30 → r.mark = false) := by
  unfold State.readBattery
  by_cases low : v < 30
  · rw [if_pos low]
    exact ⟨_, _, rfl, fun high => absurd low (Nat.not_lt.2 high), fun _ => rfl⟩
  · rw [if_neg low]
    exact ⟨s.retained, s.free, rfl, fun _ => ⟨rfl, rfl⟩, fun high => absurd high low⟩

/-- The state with a sample's level recorded. -/
def State.sampled (s : State) (v : Nat) : State := { s with battery := v, sampleElapsed := 0 }

theorem State.readBattery_sampled (high : 30 ≤ v) : s.readBattery v = s.sampled v := by
  rw [State.readBattery, if_neg (Nat.not_lt.2 high)]
  rfl

/-- The state with the band that a sample gives, a store write aborted when the band leaves NORMAL (R158, R164). -/
def State.banded (s : State) (v : Nat) (b : Band) : State :=
  { s with
    battery := v
    sampleElapsed := 0
    band := b
    store := if s.store.state = .writing ∧ b ≠ .normal ∧ b ≠ s.band
      then { s.store with state := .invalid } else s.store
    storeFailed := if s.store.state = .writing ∧ b ≠ .normal ∧ b ≠ s.band then true else s.storeFailed }

theorem State.banded_same (s : State) (v : Nat) : s.banded v s.band = s.sampled v := by
  have kept : ¬ (s.store.state = .writing ∧ s.band ≠ .normal ∧ s.band ≠ s.band) := fun h => h.2.2 rfl
  rw [State.banded, if_neg kept, if_neg kept]
  rfl

theorem State.abortStore_banded (changed : b ≠ s.band) :
    State.abortStore { s.sampled v with band := b } b = s.banded v b := by
  unfold State.abortStore State.banded
  by_cases aborts : s.store.state = .writing ∧ b ≠ .normal
  · have leaves : s.store.state = .writing ∧ b ≠ .normal ∧ b ≠ s.band := ⟨aborts.1, aborts.2, changed⟩
    rw [if_pos leaves, if_pos leaves]
    exact if_pos aborts
  · have kept : ¬ (s.store.state = .writing ∧ b ≠ .normal ∧ b ≠ s.band) := fun h => aborts ⟨h.1, h.2.1⟩
    rw [if_neg kept, if_neg kept]
    exact if_neg aborts

theorem State.setBand_same (same : b = s.band) : (s.sampled v).setBand b = s.banded v b := by
  subst same
  rw [State.banded_same]
  exact if_pos rfl

theorem State.setBand_changed (changed : b ≠ s.band) :
    (s.sampled v).setBand b = ((s.banded v b).announceBand s.band).restedPastLimit := by
  rw [← State.standbyPastLimit_eq, ← State.abortStore_banded changed]
  exact if_neg changed

/-- Nothing follows a band change while RUNNING but its event (R174). -/
theorem State.restedPastLimit_of_running (running : s.power = .running) : s.restedPastLimit = s :=
  if_neg fun rests => by simp [running] at rests

theorem State.setBand_announced (changed : b ≠ s.band) (running : s.power = .running) : (s.sampled v).setBand b
    = (s.banded v b).watchEvent (reachBand (s.banded v b).view s.band) := by
  have announced : (s.banded v b).announceBand s.band
      = (s.banded v b).watchEvent (reachBand (s.banded v b).view s.band) :=
    if_pos ((s.banded v b).isRunning_iff.2 running)
  rw [State.setBand_changed changed, announced]
  exact State.restedPastLimit_of_running (s := (s.banded v b).watchEvent _) running

theorem State.setBand_unannounced (changed : b ≠ s.band) (off : s.power ≠ .running) :
    (s.sampled v).setBand b = (s.banded v b).restedPastLimit := by
  have silent : (s.banded v b).announceBand s.band = s.banded v b :=
    if_neg (mt (s.banded v b).isRunning_iff.1 off)
  rw [State.setBand_changed changed, silent]

theorem State.restedPastLimit_running (s : State) : s.restedPastLimit.power = .running ↔ s.power = .running := by
  unfold State.restedPastLimit
  split
  · next rests => exact iff_of_false nofun (by rw [rests.1]; exact nofun)
  · exact Iff.rfl

theorem State.setBand_running : ((s.sampled v).setBand b).power = .running ↔ s.power = .running := by
  by_cases same : b = s.band
  · rw [State.setBand_same same]; rfl
  · by_cases running : s.power = .running
    · rw [State.setBand_announced same running, State.watchEvent_power]; rfl
    · rw [State.setBand_unannounced same running, State.restedPastLimit_running]; rfl

theorem State.setBand_sampleCount (running : s.power = .running) :
    ((s.sampled v).setBand b).sampleCount = s.sampleCount := by
  by_cases same : b = s.band
  · rw [State.setBand_same same]; rfl
  · rw [State.setBand_announced same running, State.watchEvent_sampleCount]; rfl

theorem State.countSample_off (off : s.power ≠ .running) : s.countSample = s := by
  obtain ⟨-, same⟩ | ⟨running, -⟩ | ⟨running, -⟩ := s.countSample_cases
  · exact same
  · exact absurd running off
  · exact absurd running off

theorem State.countSample_counts (running : s.power = .running) (more : s.sampleCount + 1 < 10) :
    s.countSample = { s with sampleCount := s.sampleCount + 1 } := by
  obtain ⟨off, -⟩ | ⟨-, -, counts⟩ | ⟨-, tenth, -⟩ := s.countSample_cases
  · exact absurd running off
  · exact counts
  · exact absurd more (Nat.not_lt.2 tenth)

theorem State.countSample_evaluates (running : s.power = .running) (tenth : 10 ≤ s.sampleCount + 1) :
    s.countSample = s.evaluateSupply := by
  obtain ⟨off, -⟩ | ⟨-, more, -⟩ | ⟨-, -, evaluates⟩ := s.countSample_cases
  · exact absurd running off
  · exact absurd more (Nat.not_lt.2 tenth)
  · exact evaluates

theorem State.isHeld_iff (s : State) : s.isHeld = true ↔ s.power = .starting ∧ s.stage = .held := by
  simp [State.isHeld]

theorem nextBand_eq_none (cut : v < 60) (old : Band) : nextBand old v = none := if_pos cut

theorem State.takeSample_bands (free : ¬ (s.power = .starting ∧ s.stage = .held)) (band : nextBand s.band v = some b) :
    s.takeSample v = ((s.sampled v).setBand b).countSample := by
  have level : 60 ≤ v := Nat.not_lt.1 fun cut => by simp [nextBand_eq_none cut] at band
  have unheld := Bool.eq_false_iff.2 (mt s.isHeld_iff.1 free)
  simp only [State.takeSample, unheld, Bool.false_eq_true, if_false, band,
    State.readBattery_sampled (Nat.le_trans (by decide) level)]

theorem State.takeSample_held (held : s.power = .starting ∧ s.stage = .held)
    (stays : s.resetKind ≠ .serviceRestart ∨ 60 ≤ v) : s.takeSample v = s.readBattery v := by
  obtain ⟨r, f, read, -⟩ := s.readBattery_eq v
  have kept : ¬ ((s.readBattery v).resetKind = .serviceRestart ∧ v < 60) := by
    rw [read]
    exact fun ⟨kind, cut⟩ => stays.elim (absurd kind) (Nat.not_le.2 cut)
  have sampled : s.takeSample v = (s.readBattery v).sampleHeld v := if_pos (s.isHeld_iff.2 held)
  exact sampled.trans (if_neg kept)

theorem State.tenthIsNext_iff (s : State) : s.tenthIsNext = true ↔ s.power = .running ∧ 9 ≤ s.sampleCount := by
  simp [State.tenthIsNext, s.isRunning_iff]

end Samples

/-- Settles O55: the table of bands, and what a sample and the tenth of them change. -/
theorem samplesSetTheBand : Obligations.SamplesSetTheBand := by
  refine ⟨fun old v => ⟨fun cut => nextBand_eq_none cut old, fun low high => ?_, fun low high => ?_, fun low high => ?_,
      fun low high => ?_, fun low => ?_⟩,
    fun view old w => ⟨fun tolerant => reachBand_of_tolerant tolerant view old, fun needs =>
      ⟨reachBand_suspends needs, reachBand_stays needs, reachBand_restores needs⟩⟩,
    fun s v b free band => ?_, fun s => ⟨fun running tenth => ?_, fun early => ?_⟩, fun s v starting held stays => ?_⟩
  · unfold nextBand
    rw [if_neg (by omega), if_pos (by omega)]
  · unfold nextBand
    rw [if_neg (by omega), if_neg (by omega), if_pos (by omega)]
    cases old <;> rfl
  · unfold nextBand
    rw [if_neg (by omega), if_neg (by omega), if_neg (by omega), if_pos (by omega)]
  · unfold nextBand
    rw [if_neg (by omega), if_neg (by omega), if_neg (by omega), if_neg (by omega), if_pos (by omega)]
    cases old <;> rfl
  · unfold nextBand
    rw [if_neg (by omega), if_neg (by omega), if_neg (by omega), if_neg (by omega), if_neg (by omega)]
  · have taken : exec (.supplySample v) s = .next (s.takeSample v) := rfl
    refine ⟨(s.sampled v).setBand b, ((s.sampled v).setBand b).countSample,
      taken.trans (congrArg Host.Outcome.next (State.takeSample_bands free band)),
      ⟨State.setBand_same, fun changed running => ?_, State.setBand_unannounced⟩,
      fun off => State.countSample_off (mt State.setBand_running.1 off), fun running more => ?_,
      fun running tenth => ?_⟩
    · rw [State.setBand_announced changed running]
      exact State.watchEvent_takesEvent _ _
    · rw [State.countSample_counts (State.setBand_running.2 running)
        (by rw [State.setBand_sampleCount running]; exact more), State.setBand_sampleCount running]
    · rw [State.countSample_evaluates (State.setBand_running.2 running)
        (by rw [State.setBand_sampleCount running]; exact tenth)]
      exact State.watchEvent_takesEvent _ _
  · exact ⟨s.takeSample s.battery, congrArg Host.Outcome.next (if_pos (s.tenthIsNext_iff.2 ⟨running, tenth⟩)), rfl⟩
  · refine congrArg Host.Outcome.next (if_neg (mt s.tenthIsNext_iff.1 fun ⟨running, tenth⟩ => ?_))
    exact early.elim (absurd running) (Nat.not_lt.2 tenth)
  · obtain ⟨r, f, read, high, low⟩ := s.readBattery_eq v
    have taken : exec (.supplySample v) s = .next (s.takeSample v) := rfl
    refine ⟨_, taken.trans (congrArg Host.Outcome.next ((State.takeSample_held ⟨starting, held⟩ stays).trans read)),
      rfl, high, low⟩

/-! ## The reporting window, the crystal and the store (R140, R158, R176) -/

/-- A window begins in slot 0 with the rate that was pending (R140). -/
theorem Pacer.beginWindow_eq {p : Pacer} (running : p.running = true) (rate : Nat) : p.beginWindow rate =
    { running := true
      nextSlot := 0
      elapsed := 0
      rate := p.pendingRate.getD rate
      pendingRate := none } := by
  unfold Pacer.beginWindow
  rw [running]

/-- Settles O60: each of the three events changes its own block. -/
theorem windowCrystalAndStoreEventsActAlone : Obligations.WindowCrystalAndStoreEventsActAlone := by
  refine fun s => ⟨fun running => ?_, rfl, fun writing => ?_⟩
  · rw [← Pacer.beginWindow_eq running]
    exact congrArg Host.Outcome.next (if_pos running)
  · have completed : exec .storeWriteComplete s = .next s.completeStore := congrArg Host.Outcome.next (if_pos writing)
    rw [completed, State.completeStore, State.standbyPastLimit_eq]

end Sys2Proof.Machine

namespace Sys2Proof.Machine

/-! ## The end of AFTER_RUN (R17, R121, R147, R174) -/

section AfterRun

variable {s : State} {w : SlotWrite} {head : WriteEntry} {rest : List WriteEntry}

theorem overflowAtLimit_idle (q : List WriteEntry) (flag : Bool) (f : FreeSource) :
    overflowAtLimit false q flag f = (if q = [] then flag else true, f) := by
  cases q <;> rfl

/-- Entries whose write has not begun are discarded with DEFERRED_OVERFLOW (R121). -/
theorem overflowAtLimit_entry (more : rest ≠ []) (flag : Bool) (f : FreeSource) :
    overflowAtLimit true (head :: rest) flag f = (true, f) := by
  cases rest with
  | nil => exact absurd rfl more
  | cons x xs => rfl

/-- The flag is only ever set at the limit, never cleared (R121). -/
theorem overflowAtLimit_keeps (writing : Bool) (q : List WriteEntry) (f : FreeSource) :
    (overflowAtLimit writing q true f).1 = true := by
  unfold overflowAtLimit
  split
  · rfl
  · split <;> rfl

/-- Where nothing but the entry being written is queued, and it has no further codes, nothing is discarded (R121). -/
theorem overflowAtLimit_none (single : ∀ c d cs, head ≠ .age (c :: d :: cs)) (flag : Bool) (f : FreeSource) :
    overflowAtLimit true [head] flag f = (flag, f) := by
  cases head with
  | confirm | heal => rfl
  | age codes =>
    match codes with
    | [] => rfl
    | [c] => rfl
    | c :: d :: cs => exact absurd rfl (single c d cs)

theorem queueAtLimit_writing (head : WriteEntry) (rest : List WriteEntry) :
    queueAtLimit true (head :: rest) = [match head with | .age (c :: _) => .age [c] | x => x] := by
  cases head with
  | confirm | heal => rfl
  | age codes => cases codes <;> rfl

theorem exec_afterRunLimit (afterRun : s.power = .afterRun) (before : s.limitPassed = false) :
    exec .afterRunLimit s = .next s.reachLimit :=
  congrArg Host.Outcome.next (if_pos (by rw [s.inAfterRun_iff.2 afterRun, before]; rfl))

/-- The limit with no slot write in progress: what is queued is discarded (R121). -/
theorem State.reachLimit_idle (idle : s.write = none) : s.reachLimit = State.restedPastLimit { s with
    writeQueue := []
    retained := { s.retained with flags := { s.retained.flags with
      deferredOverflow := if s.writeQueue = [] then s.retained.flags.deferredOverflow else true } }
    limitPassed := true } := by
  have writing : s.write.isSome = false := by rw [idle]; rfl
  rw [State.reachLimit, State.standbyPastLimit_eq, writing, overflowAtLimit_idle]
  rfl

/-- The limit while a slot write is in progress: only what has not begun is discarded (R121). -/
theorem State.reachLimit_writing (write : s.write = some w) :
    s.reachLimit = { s with
      writeQueue := queueAtLimit true s.writeQueue
      retained := { s.retained with flags := { s.retained.flags with
        deferredOverflow := (overflowAtLimit true s.writeQueue s.retained.flags.deferredOverflow s.free).1 } }
      free := (overflowAtLimit true s.writeQueue s.retained.flags.deferredOverflow s.free).2
      limitPassed := true } := by
  have writing : s.write.isSome = true := by rw [write]; rfl
  rw [State.reachLimit, State.standbyPastLimit_eq, writing]
  exact if_neg fun ⟨_, _, idle, _⟩ => by rw [write] at idle; cases idle

theorem State.drained_of (afterRun : s.power = .afterRun) (reports : s.reports = []) (control : s.control.queue = [])
    (vehicle : s.vehicle.queue = []) (queue : s.writeQueue = []) (idle : s.write = none)
    (stored : s.store.state ≠ .writing) : s.drained = true := by
  simp [State.drained, s.inAfterRun_iff.2 afterRun, reports, control, vehicle, queue, idle, stored]

end AfterRun

/-- Settles O59: the end of AFTER_RUN when all is drained, and the limit by the writes in progress. -/
theorem afterRunEndsDrainedOrAtItsLimit : Obligations.AfterRunEndsDrainedOrAtItsLimit := by
  refine ⟨fun s => rfl, fun s afterRun reports control vehicle queue idle stored => ?_,
    fun s afterRun before idle stored => ?_, fun s w head rest afterRun before write queue => ?_,
    fun s afterRun before idle writing => ?_⟩
  · exact congrArg Host.Outcome.next
      (if_pos (State.drained_of afterRun reports control vehicle queue idle stored))
  · rw [exec_afterRunLimit afterRun before, State.reachLimit_idle idle]
    exact congrArg Host.Outcome.next (if_pos ⟨afterRun, rfl, idle, stored⟩)
  · refine ⟨_, exec_afterRunLimit afterRun before, ?_⟩
    rw [State.reachLimit_writing write, queue]
    refine ⟨fun more => ?_, fun set => ?_, fun last single => ?_, queueAtLimit_writing head rest, rfl⟩
    · rw [overflowAtLimit_entry more]
    · rw [set]; exact overflowAtLimit_keeps true _ s.free
    · subst last
      rw [overflowAtLimit_none single]
      exact ⟨rfl, rfl⟩
  · rw [exec_afterRunLimit afterRun before, State.reachLimit_idle idle]
    exact congrArg Host.Outcome.next (if_neg fun ⟨_, _, _, stored⟩ => stored writing)

/-! ## Resets (R165, R166) -/

section Resets

variable {s : State} {v : Nat}

theorem Store.afterReset_eq (x : Store) :
    x.afterReset = { x with state := if x.state = .writing then .invalid else x.state } := by
  cases x with
  | mk state tables elapsed duration => cases state <;> rfl

/-- What a reset leaves of the state before it (R158, R161, R165). -/
theorem State.resetModule_eq (s : State) (kind : ResetKind) : s.resetModule kind = { State.reset with
    resetKind := kind
    battery := s.battery
    keyLine := s.keyLine
    crystalRuns := s.crystalRuns
    retained := s.retained
    store := { s.store with state := if s.store.state = .writing then .invalid else s.store.state }
    configured := s.configured
    working := s.working
    staging := s.working
    control := .fresh s.control.bitRate
    vehicle := .fresh s.vehicle.bitRate
    free := s.free
    pending := s.pending } := by
  rw [State.resetModule, Store.afterReset_eq]
  rfl

/-- A sample below 6.0 V resets the module, unless it waits in its reset for the supply to rise (R165). -/
theorem State.takeSample_resets (cut : v < 60)
    (taken : ¬ (s.power = .starting ∧ s.stage = .held) ∨ s.resetKind = .serviceRestart) :
    s.takeSample v = (s.readBattery v).resetModule .supplyDip := by
  obtain ⟨r, f, read, -⟩ := s.readBattery_eq v
  have kind : (s.readBattery v).resetKind = s.resetKind := by rw [read]
  unfold State.takeSample
  by_cases held : s.power = .starting ∧ s.stage = .held
  · have service := taken.resolve_left (not_not.2 held)
    have again : (s.readBattery v).sampleHeld v = (s.readBattery v).resetModule .supplyDip :=
      if_pos ⟨kind.trans service, cut⟩
    exact (if_pos (s.isHeld_iff.2 held)).trans again
  · rw [nextBand_eq_none cut]
    exact if_neg (mt s.isHeld_iff.1 held)

theorem State.waitsInDip_iff (s : State) : (s.isHeld && s.resetKind == .supplyDip) = true
    ↔ s.power = .starting ∧ s.stage = .held ∧ s.resetKind = .supplyDip := by
  rw [Bool.and_eq_true, State.isHeld_iff, beq_iff_eq, and_assoc]

theorem State.restartFallsDue_iff (s : State) : s.restartFallsDue = true ↔ s.responder.restartPending = true
    ∧ (s.responder.restartDue = true
      ∨ ((s.vehicle.state = .errorActive ∨ s.vehicle.state = .errorPassive) ∧ s.vehicle.queue.length = 1
        ∧ s.responder.waiting = none)) := by
  simp [State.restartFallsDue, s.vehicle.live_iff, and_assoc]

end Resets

/-- Settles O56: the resets and what they lose. -/
theorem resetsLoseVolatileState : Obligations.ResetsLoseVolatileState := by
  unfold Obligations.ResetsLoseVolatileState
  intro isReset
  refine ⟨fun s v cut taken => ?_, fun s rises => ?_, fun s starting held kind => ?_, fun s pending due => ?_,
    fun s free => ?_, fun s => ⟨{ s.loseRetained with battery := 0 }, rfl, rfl, rfl⟩⟩
  · obtain ⟨r, f, read, high, low⟩ := s.readBattery_eq v
    have sampled : exec (.supplySample v) s = .next (s.takeSample v) := rfl
    refine ⟨_, sampled.trans (congrArg Host.Outcome.next (State.takeSample_resets cut taken)), ?_⟩
    rw [read, State.resetModule_eq]
    exact ⟨rfl, rfl, fun supplied => (high supplied).1, low⟩
  · refine ⟨_, congrArg Host.Outcome.next (if_neg (mt s.waitsInDip_iff.1 rises)), ?_⟩
    rw [State.resetModule_eq]
    exact ⟨rfl, rfl⟩
  · exact congrArg Host.Outcome.next (if_pos (s.waitsInDip_iff.2 ⟨starting, held, kind⟩))
  · refine ⟨_, congrArg Host.Outcome.next (if_pos (s.restartFallsDue_iff.2 ⟨pending, due⟩)), ?_⟩
    rw [State.resetModule_eq]
    exact ⟨rfl, rfl, rfl⟩
  · have pending : ¬ s.responder.restartPending = true := by simp [free]
    exact congrArg Host.Outcome.next (if_neg fun due => pending (s.restartFallsDue_iff.1 due).1)

end Sys2Proof.Machine

namespace Sys2Proof.Machine

/-! ## Starting (R91, R98, R120, R161, R163, R165 to R167) -/

section Starting

variable {s : State}

theorem clearFlagsFrom_getElem? (n : Nat) (flags : List RideFlags) (i : Nat) :
    (clearFlagsFrom n flags)[i]? = (flags[i]?).map fun f => if n ≤ i then ⟨false, false⟩ else f := by
  rw [clearFlagsFrom, mapFrom_getElem?, Nat.zero_add]; rfl

theorem clearFlagsBelow_getElem? (n : Nat) (flags : List RideFlags) (i : Nat) :
    (clearFlagsBelow n flags)[i]? = (flags[i]?).map fun f => if i < n then ⟨false, false⟩ else f := by
  rw [clearFlagsBelow, mapFrom_getElem?, Nat.zero_add]; rfl

theorem State.canStart_iff (s : State) : s.canStart = true ↔ s.power = .starting
    ∧ (s.stage = .keyOn ∨ (s.stage = .held ∧ (s.resetKind = .serviceRestart ∨ 63 ≤ s.battery))) := by
  unfold State.canStart
  cases s.stage <;> simp

theorem exec_startup (can : s.canStart = true) : exec .startup s = .next s.startUp :=
  congrArg Host.Outcome.next (if_pos can)

theorem startFlags_eq (configured : Bool) (n : Nat) (flags : List RideFlags) :
    startFlags configured n flags = clearFlagsFrom (if configured = true then n else 0) flags := by
  cases configured <;> rfl

/-- Retained memory at the start that follows a reset, with and without the mark (R91, R119, R120, R166). -/
theorem State.startRetained_of_held (held : s.stage = .held) : s.startRetained =
    { mark := true
      slots := if s.retained.mark = true then s.retained.slots.map Slot.freed else List.replicate 32 .empty
      flags := if s.retained.mark = true then
          { s.retained.flags with
            recordLost := s.retained.flags.recordLost || s.retained.slots.any Slot.isWriting }
        else ⟨true, false, false, false⟩
      rideFlags := if s.retained.mark = true then s.retained.rideFlags else List.replicate 64 ⟨false, false⟩
      rideNumber := if s.retained.mark = true then s.retained.rideNumber else 0
      rideOpen := if s.retained.mark = true then s.retained.rideOpen else false
      rideClock := if s.retained.mark = true then s.retained.rideClock else 0
      verified := if s.retained.mark = true then s.retained.verified else false
      restarts := if s.retained.mark = true then s.retained.restarts else 0
      lastReset := s.resetKind } := by
  unfold State.startRetained
  dsimp only
  rw [if_pos held]
  by_cases mark : s.retained.mark = true
  · simp only [Retained.recovered, mark, if_true]
  · simp only [if_neg mark]
    rfl

/-- Retained memory at a start from STANDBY, where the mark stands (R120). -/
theorem State.startRetained_of_keyOn (keyOn : s.stage = .keyOn) (mark : s.retained.mark = true) :
    s.startRetained = s.retained.recovered := by
  have notHeld : s.stage ≠ .held := by rw [keyOn]; exact nofun
  unfold State.startRetained
  dsimp only
  rw [if_pos mark, if_neg notHeld]

theorem State.finishStart_of_unsettled (unsettled : s.keySettled = none) :
    s.finishStart = { s with stage := .waitKey } := by
  simp only [State.finishStart, unsettled]

theorem State.finishStart_of_settled {on : Bool} (settled : s.keySettled = some on) :
    s.finishStart = s.rideDecision on := by
  simp only [State.finishStart, settled]

/-- Steps 1 to 4 of a start that follows a reset. -/
theorem State.setUp_of_held (held : s.stage = .held) : s.setUp =
    { s with
      retained := { s.startRetained with
        rideFlags := clearFlagsFrom
          (if s.store.state = .valid then s.store.startTables.settings.faultCount else 0) s.startRetained.rideFlags }
      band := (nextBand .low s.battery).getD .low
      working := s.store.startTables
      staging := s.store.startTables
      configured := decide (s.store.state = .valid)
      storeFailed := false
      control := .fresh s.store.startTables.settings.controlRate
      vehicle := .fresh s.store.startTables.settings.vehicleRate
      monitor := stoppedMonitor s.store.startTables
      cache := initialCache s.store.startTables
      watches := uniformWatches s.store.startTables .notRunning s.startRetained.rideClock
      faults := deriveFaults s.store.startTables s.startRetained.slots []
      writeQueue := []
      write := none } := by
  unfold State.setUp
  dsimp only
  rw [if_pos held, startFlags_eq, ite_of_iff (beq_iff_eq (a := s.store.state) (b := .valid))]
  rfl

end Starting

/-- Settles O57: the start after a reset, by the battery's level and the kind, and the start from STANDBY. -/
theorem startupPreparesTheModule : Obligations.StartupPreparesTheModule := by
  refine ⟨clearFlagsFrom_getElem?, fun s starting held unsettled supplied => ?_, fun s starting held kind low => ?_,
    fun s starting held kind low => ?_, fun s starting keyOn settled mark closed => ?_⟩
  · have can : s.canStart = true :=
      s.canStart_iff.2 ⟨starting, .inr ⟨held, supplied.imp_left And.left⟩⟩
    have level : ¬ (s.stage = .held ∧ s.battery < 60) := fun ⟨_, cut⟩ =>
      supplied.elim (fun service => Nat.not_le.2 cut service.2) (fun high => absurd high (by omega))
    have prepared : s.startUp = s.setUp.finishStart := if_neg level
    have waits : s.setUp.finishStart = { s.setUp with stage := .waitKey } :=
      State.finishStart_of_unsettled (s := s.setUp) unsettled
    rw [exec_startup can, prepared, waits, State.setUp_of_held held, State.startRetained_of_held held]
    rfl
  · refine congrArg Host.Outcome.next (if_neg fun can => ?_)
    obtain ⟨-, keyOn | ⟨-, service | high⟩⟩ := s.canStart_iff.1 can
    · rw [held] at keyOn; cases keyOn
    · exact kind service
    · omega
  · have can : s.canStart = true := s.canStart_iff.2 ⟨starting, .inr ⟨held, .inl kind⟩⟩
    have again : s.startUp = s.resetModule .supplyDip := if_pos ⟨held, low⟩
    exact ⟨_, (exec_startup can).trans (congrArg Host.Outcome.next again), rfl, rfl, rfl, rfl, rfl, rfl⟩
  · have can : s.canStart = true := s.canStart_iff.2 ⟨starting, .inl keyOn⟩
    have notHeld : s.stage ≠ .held := by rw [keyOn]; exact nofun
    have prepared : s.startUp = s.setUp.finishStart := if_neg fun cut => notHeld cut.1
    have decides : s.setUp.finishStart = s.setUp.rideDecision true :=
      State.finishStart_of_settled (s := s.setUp) settled
    have retained := State.startRetained_of_keyOn keyOn mark
    have undisturbed : (if s.setUp.stage = .keyOn then s.setUp else s.setUp.settleTimebase) = s.setUp := if_pos keyOn
    have rideClosed : s.setUp.retained.rideOpen = false :=
      (congrArg Retained.rideOpen retained).trans closed
    have rides : s.setUp.rideDecision true = s.setUp.joinBuses.newRide := by
      simp only [State.rideDecision, undisturbed, rideClosed]
    have band : s.setUp.band = s.band := if_neg notHeld
    have number : s.startRetained.rideNumber = s.retained.rideNumber := by rw [retained]; rfl
    have lastReset : s.startRetained.lastReset = s.retained.lastReset := by rw [retained]; rfl
    have slots : s.startRetained.slots = s.retained.slots.map Slot.freed := by rw [retained]; rfl
    refine ⟨_, (exec_startup can).trans (congrArg Host.Outcome.next (prepared.trans (decides.trans rides))),
      rfl, ?_, rfl, lastReset, rfl, rfl, rfl, rfl, rfl, rfl, slots, rfl, band, rfl, rfl⟩
    rw [← number]
    rfl

end Sys2Proof.Machine

namespace Sys2Proof.Machine

/-! ## Ride starts and ride ends (R15, R21, R75, R92, R94, R129, R130, R136, R168, R170 to R176) -/

section Rides

variable {s : State}

theorem agingList_atBoth (t : Tables) (flags : List RideFlags) : agingList t flags =
    (mapFrom (atBoth (fun e f => if f.tested && !f.confirmed then [e.code] else []) flags) 0 t.faultList).flatten := by
  unfold agingList
  refine congrArg (fun f => (mapFrom f 0 t.faultList).flatten) (funext fun i => funext fun e => ?_)
  unfold atBoth
  cases flags[i]? <;> rfl

/-- The codes that a ride end ages, in ascending order of index (R92). -/
theorem agingList_eq (t : Tables) (flags : List RideFlags) : agingList t flags =
    (t.faultList.zip flags).filterMap fun x =>
      if x.2.tested = true ∧ x.2.confirmed = false then some x.1.code else none := by
  rw [agingList_atBoth, mapFrom_atBoth_flatten, List.drop_zero, List.filterMap_eq_flatMap_toList]
  refine List.flatMap_congr fun x _ => ?_
  cases x.2.tested <;> cases x.2.confirmed <;> rfl

theorem initialTimer_eq (e : FrameEntry) (grace : Nat) (degraded : Bool) (base : Nat) :
    initialTimer e grace degraded base = match e.timing with
      | .event => none
      | .periodic => some (min 4294967295 (base + grace
          + if degraded then (e.timeout * 9 + 7) / 8 else e.timeout)) := by
  unfold initialTimer
  cases e.timing with
  | event => rfl
  | periodic => rw [Nat.add_assoc]; rfl

/-- The lamp mode that a ride starts in (R125, R129). -/
def State.rideMode (s : State) (r : Retained) (bulb : Option Nat) (sys : FaultSystem) : LampMode :=
  if s.configured = true ∧ bulb = none
    then lampDemand s.working (s.working.faultList.map (·.derive r.slots s.writeQueue)) sys else .steady

/-- The state of a ride that has just started, before its start is announced to the PORT watches. -/
def State.riding (s : State) (r : Retained) (bulb : Option Nat) : State :=
  { s with
    power := .running
    stage := .done
    retained := r
    control := { s.control with forwardDrop := 0, unknown := 0 }
    vehicle := { s.vehicle with forwardDrop := 0, unknown := 0 }
    clashes := 0
    monitor := initialMonitor s.working s.degraded r.rideClock
    cache := initialCache s.working
    watches := uniformWatches s.working .notYet r.rideClock
    faults := deriveFaults s.working r.slots s.writeQueue
    reportsDropped := 0
    sampleCount := 0
    engineLamp := .placed s.working.settings (s.rideMode r bulb .engine)
    brakeLamp := .placed s.working.settings (s.rideMode r bulb .brake)
    stepPos := 0
    boundaryDue := false
    bulbCheck := bulb
    limitPassed := false
    lampElapsed := 0 }

/-- The mode of R125 in a ride that has just started is the one it starts in; the lamps have no part in it. -/
theorem State.modeOf_riding (s : State) (r : Retained) (bulb : Option Nat) (sys : FaultSystem) :
    (s.riding r bulb).modeOf sys = s.rideMode r bulb sys := by
  have running : ¬ (s.riding r bulb).power ≠ .running := not_not.2 rfl
  rw [State.modeOf_eq, if_neg running, State.rideMode]
  have configured : (s.riding r bulb).configured = s.configured := rfl
  have check : (s.riding r bulb).bulbCheck = bulb := rfl
  rw [configured, check]
  cases s.configured <;> cases bulb <;> rfl

theorem State.startRide_eq (s : State) (r : Retained) (bulb : Option Nat) : (s.withRetained r).startRide bulb
    = (s.riding r bulb).watchEvent (reachInit (s.riding r bulb).view) := by
  have placed : (s.riding r bulb).placeLamps = s.riding r bulb := by
    rw [State.placeLamps, State.modeOf_riding, State.modeOf_riding]
    rfl
  exact congrArg (fun u : State => u.watchEvent (reachInit u.view)) placed

theorem State.startRide_takesEvent (s : State) (r : Retained) (bulb : Option Nat) :
    (s.riding r bulb).takesEvent (reachInit (s.riding r bulb).view) ((s.withRetained r).startRide bulb) := by
  rw [State.startRide_eq]
  exact State.watchEvent_takesEvent _ _

theorem State.withAgeEntry_eq (s : State) : s.withAgeEntry =
    (if agingList s.working s.retained.rideFlags ≠ [] ∧ s.writeQueue.length < 8
        then s.writeQueue ++ [.age (agingList s.working s.retained.rideFlags)] else s.writeQueue,
      { s.retained.flags with
        deferredOverflow := if agingList s.working s.retained.rideFlags ≠ [] ∧ 8 ≤ s.writeQueue.length
          then true else s.retained.flags.deferredOverflow }) := by
  unfold State.withAgeEntry
  cases agingList s.working s.retained.rideFlags with
  | nil => simp
  | cons c cs =>
    by_cases space : s.writeQueue.length < 8
    · have joins : joinWrites (.age (c :: cs)) s.writeQueue s.retained.flags
          = (s.writeQueue ++ [.age (c :: cs)], s.retained.flags) := if_pos space
      simp [joins, space, Nat.not_le.2 space]
    · have lost : joinWrites (.age (c :: cs)) s.writeQueue s.retained.flags
          = (s.writeQueue, { s.retained.flags with deferredOverflow := true }) := if_neg space
      simp [lost, space, Nat.not_lt.1 space]

/-- The Timebase at the end of a STARTING: a crystal that runs is used, one that had stopped is free to run (R176). -/
theorem State.settleTimebase_eq (s : State) : ∃ (runs : Bool) (free : FreeSource),
    (s.crystalRuns = true → runs = true ∧ free = s.free)
    ∧ ∀ on, State.settleTimebase { s with keySettled := on } = { s with
        keySettled := on
        timebase := if runs = true then .crystal else .internal
        degraded := !runs
        crystalRuns := runs
        free := free } := by
  by_cases crystal : s.crystalRuns = true
  · refine ⟨true, s.free, fun _ => ⟨rfl, rfl⟩, fun on => ?_⟩
    unfold State.settleTimebase
    rw [if_pos crystal]
    dsimp only
    rw [crystal]
    rfl
  · exact ⟨s.free.draw.1 % 2 == 0, s.free.draw.2, fun runs => absurd runs crystal, fun on => if_neg crystal⟩

/-! ### The ride decision of a start that follows a reset settles the Timebase first (R168, R176) -/

section Decision

variable {u : State} (waits : s.stage = .waitKey) (settled : s.settleTimebase = u)

include waits settled

theorem State.decided_eq : (if s.stage = .keyOn then s else s.settleTimebase) = u :=
  (if_neg (by rw [waits]; exact nofun)).trans settled

theorem State.rideDecision_resumes (isOpen : u.retained.rideOpen = true) :
    s.rideDecision true = u.joinBuses.resumeRide := by
  simp only [State.rideDecision, State.decided_eq waits settled, isOpen]

theorem State.rideDecision_begins (closed : u.retained.rideOpen = false) :
    s.rideDecision true = u.joinBuses.newRide := by
  simp only [State.rideDecision, State.decided_eq waits settled, closed]

theorem State.rideDecision_ends (isOpen : u.retained.rideOpen = true) :
    s.rideDecision false = u.joinBuses.endRide := by
  simp only [State.rideDecision, State.decided_eq waits settled, isOpen]

theorem State.rideDecision_sleeps (closed : u.retained.rideOpen = false) :
    s.rideDecision false = { u with power := .standby, stage := .done } := by
  simp only [State.rideDecision, State.decided_eq waits settled, closed]

end Decision

theorem exec_keyOnSettled (on : s.keyLine = true) (free : ¬ (s.power = .starting ∧ s.stage = .held)) :
    exec .keyOnSettled s = .next s.settleOn :=
  congrArg Host.Outcome.next (if_pos (by rw [on, Bool.eq_false_iff.2 (mt s.isHeld_iff.1 free)]; rfl))

theorem exec_keyOffSettled (off : s.keyLine = false) (free : ¬ (s.power = .starting ∧ s.stage = .held)) :
    exec .keyOffSettled s = .next s.settleOff :=
  congrArg Host.Outcome.next (if_pos (by rw [off, Bool.eq_false_iff.2 (mt s.isHeld_iff.1 free)]; rfl))

theorem State.settleOn_waiting (starting : s.power = .starting) (waits : s.stage = .waitKey) :
    s.settleOn = State.rideDecision { s with keySettled := some true } true := by
  simp only [State.settleOn, starting, waits]

theorem State.settleOff_waiting (starting : s.power = .starting) (waits : s.stage = .waitKey) :
    s.settleOff = State.rideDecision { s with keySettled := some false } false := by
  simp only [State.settleOff, starting, waits]

theorem State.settleOff_running (running : s.power = .running) :
    s.settleOff = State.endRide { s with keySettled := some false } := by
  simp only [State.settleOff, running]

theorem State.settleOn_afterRun (afterRun : s.power = .afterRun) :
    s.settleOn = State.newRide { s with keySettled := some true } := by
  simp only [State.settleOn, afterRun]

theorem State.settleOn_standby (standby : s.power = .standby) :
    s.settleOn = State.intoStarting { s with keySettled := some true } .keyOn := by
  simp only [State.settleOn, standby]

end Rides

/-- Settles O58: the key line and its ride decisions. -/
theorem settledKeyOpensAndClosesRides : Obligations.SettledKeyOpensAndClosesRides := by
  unfold Obligations.SettledKeyOpensAndClosesRides
  intro decided joined riding newRide resumed ended starts
  have ends : ∀ u : State, u.endRide = ended u := fun u => by
    rw [State.endRide, State.withAgeEntry_eq]; rfl
  refine ⟨agingList_eq, clearFlagsBelow_getElem?, fun t degraded now => ?_,
    fun s on changes => congrArg Host.Outcome.next (if_neg (Ne.symm changes)), fun s starting waits => ?_,
    fun s running off => ?_, fun s afterRun on => ?_, fun s standby on => ?_⟩
  · refine List.map_congr_left fun e _ => ?_
    rw [initialTimer_eq]
    cases e.timing <;> rfl
  · have free : ¬ (s.power = .starting ∧ s.stage = .held) := fun held => by rw [waits] at held; cases held.2
    obtain ⟨runs, source, same, settled⟩ := s.settleTimebase_eq
    refine ⟨runs, source, same, fun on isOpen => ?_, fun on closed => ?_, fun off isOpen => ?_, fun off closed => ?_⟩
    · have resumes : s.settleOn = (joined (decided s runs source true)).resumeRide :=
        (State.settleOn_waiting starting waits).trans
          (State.rideDecision_resumes (s := { s with keySettled := some true }) waits (settled (some true)) isOpen)
      exact ⟨_, (exec_keyOnSettled on free).trans (congrArg Host.Outcome.next resumes),
        State.startRide_takesEvent _ _ _⟩
    · have begins : s.settleOn = (joined (decided s runs source true)).newRide :=
        (State.settleOn_waiting starting waits).trans
          (State.rideDecision_begins (s := { s with keySettled := some true }) waits (settled (some true)) closed)
      exact ⟨_, (exec_keyOnSettled on free).trans (congrArg Host.Outcome.next begins),
        State.startRide_takesEvent _ _ _⟩
    · have ending : s.settleOff = (joined (decided s runs source false)).endRide :=
        (State.settleOff_waiting starting waits).trans
          (State.rideDecision_ends (s := { s with keySettled := some false }) waits (settled (some false)) isOpen)
      rw [exec_keyOffSettled off free, ending, ends]
    · have sleeps : s.settleOff = { decided s runs source false with power := .standby, stage := .done } :=
        (State.settleOff_waiting starting waits).trans
          (State.rideDecision_sleeps (s := { s with keySettled := some false }) waits (settled (some false)) closed)
      rw [exec_keyOffSettled off free, sleeps]
  · rw [exec_keyOffSettled off (fun held => by rw [running] at held; cases held.1), State.settleOff_running running]
    exact congrArg Host.Outcome.next (ends _)
  · refine ⟨_, (exec_keyOnSettled on (fun held => by rw [afterRun] at held; cases held.1)).trans
      (congrArg Host.Outcome.next (State.settleOn_afterRun afterRun)), ?_⟩
    exact State.startRide_takesEvent _ _ _
  · exact ⟨_, (exec_keyOnSettled on (fun held => by rw [standby] at held; cases held.1)).trans
      (congrArg Host.Outcome.next (State.settleOn_standby standby)),
      rfl, rfl, rfl, rfl, rfl, rfl, rfl, rfl, rfl, rfl, rfl, rfl, rfl, rfl, rfl, rfl⟩

end Sys2Proof.Machine
